-- ==== Sys2Proof/Word.lean ====
section
/-! DEFINITION. The plain words of the model: bytes, the Lane Clock's milliseconds, station numbers, and the
four-corner vectors of the weigh bed. Only types and their plainest arithmetic stand here. -/

namespace Sys2Proof

/-- One byte of a notice, a record or the configuration block (R194). -/
abbrev Byte := BitVec 8

/-- A value of the Lane Clock: a 32-bit count of milliseconds that wraps (R192). -/
abbrev Ms := BitVec 32

/-- A station number of the dock line, 0..14 (R127). -/
abbrev Station := Fin 15

/-- One number for each corner cell, in slot order: front-left, front-right, rear-right, rear-left (R50). -/
structure Corners where
  c0 : Int
  c1 : Int
  c2 : Int
  c3 : Int
deriving DecidableEq, Repr

/-- Four zeros. -/
def Corners.zero : Corners := ⟨0, 0, 0, 0⟩

/-- The corner-by-corner sum. -/
def Corners.add (a b : Corners) : Corners := ⟨a.c0 + b.c0, a.c1 + b.c1, a.c2 + b.c2, a.c3 + b.c3⟩

/-- The corner-by-corner difference. -/
def Corners.sub (a b : Corners) : Corners := ⟨a.c0 - b.c0, a.c1 - b.c1, a.c2 - b.c2, a.c3 - b.c3⟩

/-- The sum over the four corners. -/
def Corners.total (a : Corners) : Int := a.c0 + a.c1 + a.c2 + a.c3

end Sys2Proof
end

