-- ==== Sys2Proof/Machine/Operands.lean ====
section
/-! DEFINITION. Byte order and field forms (R194): numbers as bytes with the most significant byte first, bytes as
numbers, and signed fields in two's complement. Every layout of the model is written with these. -/

namespace Sys2Proof.Machine

/-- `x` as `n` bytes, most significant byte first (R194). -/
def beBytes : Nat → Nat → List Byte
  | 0, _ => []
  | n + 1, x => BitVec.ofNat 8 (x / 256 ^ n) :: beBytes n x

/-- The number that bytes spell with the most significant byte first (R194). -/
def beNat (bs : List Byte) : Nat := bs.foldl (fun acc b => 256 * acc + b.toNat) 0

/-- The number spelled by the `n` bytes from offset `i`; bytes beyond the end count as absent. -/
def beAt (bs : List Byte) (i n : Nat) : Nat := beNat ((bs.drop i).take n)

/-- A signed number as an unsigned field of `w` bits, two's complement (R194). -/
def signedField (w : Nat) (x : Int) : Nat := (BitVec.ofInt w x).toNat

/-- `x` brought into `lo..hi` (00_scope 6.4 "clamped"). -/
def clampInt (lo hi x : Int) : Int := if x < lo then lo else if hi < x then hi else x

/-- A flag as the bit of weight `w` of a packed field. -/
def flag (b : Bool) (w : Nat) : Nat := if b then w else 0

/-- A count incremented by one that stays at `limit` (00_scope 6.4 "saturates"). -/
def satSucc (limit n : Nat) : Nat := if limit ≤ n then limit else n + 1

end Sys2Proof.Machine
end

