-- ==== Sys2Proof/Config.lean ====
section
/-! DEFINITION. What one part fixes for itself: the configuration image of R188 to R202, and the free value that
stands for an order the spec leaves open (log 8). -/

namespace Sys2Proof

/-- The parameters of one wrap class (R113). -/
structure WrapClass where
  bottomCount : Nat
  topCount    : Nat
  cross       : Bool
  overlapMm   : Nat
  breakLevel  : Int
  highLevel   : Int
deriving DecidableEq, Repr

/-- One entry of the tolerance table: the fixed part F in grams and the per-mille part P (R68). -/
structure Tolerance where
  fixed    : Nat
  perMille : Nat
deriving DecidableEq, Repr

/-- The configuration image: every parameter of R202, as used after the clamps of R190. -/
structure Image where
  station       : Station
  recordAddr    : BitVec 4
  bitRate       : Nat
  arbMode       : Nat
  frameRate     : Nat
  wCode         : Nat
  slot4         : Bool
  retries       : Nat
  zeros         : Corners
  gains         : Corners
  span          : Nat       -- S
  zeroLimit     : Nat       -- Lz
  tare          : Vector Nat 4
  tolerance     : Vector Tolerance 16
  minGross      : Nat
  latLimit      : Nat
  longLimit     : Nat
  mu            : Nat
  deckOffset    : Nat
  mastMax       : BitVec 16
  bottomTarget  : BitVec 16
  countsPerRev  : Nat
  parkAngle     : BitVec 16
  forceGain     : Nat
  applyOffset   : BitVec 16
  cutTime       : Nat
  tRead         : Nat
  tManifest     : Nat
  tTransfer     : Nat
  tExit         : Nat
  tSettle       : Nat
  tPrint        : Nat
  tApply        : Nat
  tClaim        : Nat
  tWait         : Nat
  classes       : Vector WrapClass 4
deriving DecidableEq, Repr

/-- The all-zero image. While no image is held no block that reads it is working (R188); this value stands in
for it so that reading a parameter is total. -/
def Image.blank : Image where
  station := 0
  recordAddr := 0
  bitRate := 0
  arbMode := 0
  frameRate := 0
  wCode := 0
  slot4 := false
  retries := 0
  zeros := Corners.zero
  gains := Corners.zero
  span := 0
  zeroLimit := 0
  tare := Vector.replicate 4 0
  tolerance := Vector.replicate 16 ⟨0, 0⟩
  minGross := 0
  latLimit := 0
  longLimit := 0
  mu := 0
  deckOffset := 0
  mastMax := 0
  bottomTarget := 0
  countsPerRev := 0
  parkAngle := 0
  forceGain := 0
  applyOffset := 0
  cutTime := 0
  tRead := 0
  tManifest := 0
  tTransfer := 0
  tExit := 0
  tSettle := 0
  tPrint := 0
  tApply := 0
  tClaim := 0
  tWait := 0
  classes := Vector.replicate 4 ⟨0, 0, false, 0, 0, 0⟩

/-- A FREE VALUE: which of several things that come in one instant is taken first, where the spec says that
either may be (R137, R174, R191). It has no body, so nothing can be proved of it. DESIGN CHOICE, safe: log 8. -/
opaque Config.freeOrder : Nat → Nat

end Sys2Proof
end

