-- ==== Sys2Proof/Syntax.lean ====
section
/-! DEFINITION. The commands of the block: one constructor of Instr for each row of spec/opcode_table.json, with
the operands that the row's rule reads. Log 6 says which input levels a command carries. -/

namespace Sys2Proof

/-- A manifest, as R32's table of chapter 2.4 lists its fields and R198 lays them out. -/
structure Manifest where
  ident      : BitVec 32
  load       : BitVec 16
  seq        : BitVec 8
  total      : BitVec 8
  issueNext  : BitVec 9
  drop       : BitVec 4
  base       : BitVec 2
  wrapClass  : BitVec 2
  tolClass   : BitVec 4
  sku        : BitVec 16
  cases      : BitVec 16
  unitMass   : BitVec 16
  bandMin    : BitVec 8
  bandMax    : BitVec 8
  serial     : BitVec 40
  lot        : BitVec 16
  bestBefore : BitVec 16
deriving DecidableEq, Repr

/-- The photo-eyes at the zones and at the two ends of the lane (chapter 1.1). -/
inductive Eye where
  | zone (z : Fin 9)
  | exit
  | reject
deriving DecidableEq, Repr

/-- The left and right label units (chapter 6). -/
inductive Side where
  | left
  | right
deriving DecidableEq, Repr

/-- What the tag reader sends: READ with an ident, NO_READ, or a reply the tag link cannot decode (R30). -/
inductive TagReply where
  | read (ident : BitVec 32)
  | noRead
  | undecodable
deriving DecidableEq, Repr

/-- What a label unit sends: READY, ERROR, or an answer the link cannot decode (R115). -/
inductive UnitAnswer where
  | ready
  | error
  | undecodable
deriving DecidableEq, Repr

/-- How ACK and RESTART reach the lane: a Lane Command notice from a station, or a change of the push input to the
level given (R169). -/
inductive Origin where
  | line (src : Station) (dst : BitVec 4)
  | push (asserted : Bool)
deriving DecidableEq, Repr

/-- The commands, one for each row of spec/opcode_table.json, in the table's order. `src` and `dst` are the source
and destination of a notice taken whole. -/
inductive Instr where
  | powerOnReset
  | configBlockRead (bytes : List Byte)
  | laneLampPhase
  | inArrival
  | eyeEdgeNoEffect (eye : Eye) (blocked : Bool)
  | transferStart (z : Fin 8)
  | transferComplete (z : Fin 8)
  | transferTimeout (z : Fin 8)
  | rejectTransferStart (rejectFull : Bool)
  | rejectTransferComplete
  | rejectTransferTimeout
  | exitStart (mergeClear : Bool)
  | exitComplete
  | exitTimeout
  | tagReply (reply : TagReply)
  | tagReadTimeout
  | manifestRequestJoin
  | manifestTimeout (tag : BitVec 8)
  | manifest (src : Station) (dst : BitVec 4) (m : Manifest)
  | manifestVoid (src : Station) (dst : BitVec 4) (ident : BitVec 32)
  | bedFrameComplete
  | weighingStart
  | settleTimeout
  | turntablePulse
  | turntableIndex
  | turntableStallTimeout
  | mastStep (up : Bool)
  | topEyeEdge (blocked : Bool)
  | mastHomeAsserted (asserted : Bool)
  | wrapStart
  | cutTimeEnd
  | filmLowInput (asserted : Bool)
  | labelCompose
  | labelAnswer (side : Side) (answer : UnitAnswer)
  | printTimeout
  | labelMarkEdge (blocked : Bool)
  | conveyorPulse
  | applyPulseEnd
  | appliedConfirmation (side : Side) (asserted : Bool)
  | applyTimeout
  | labelLowInput (side : Side) (asserted : Bool)
  | claim (src : Station) (dst : BitVec 4) (load : BitVec 16) (seq : BitVec 8) (forced : Bool) (ident : BitVec 32)
  | released (src : Station) (dst : BitVec 4) (load : BitVec 16) (seq : BitVec 8)
  | abandon (src : Station) (dst : BitVec 4) (load : BitVec 16) (seq : BitVec 8)
  | skip (src : Station) (dst : BitVec 4) (load : BitVec 16) (next : BitVec 16)
  | loadClose (src : Station) (dst : BitVec 4) (load : BitVec 16)
  | claimTimeout (load : BitVec 16)
  | claimQueue (mergeClear : Bool)
  | stallTimeout
  | start (src : Station) (dst : BitVec 4)
  | stop (src : Station) (dst : BitVec 4)
  | ack (origin : Origin)
  | forceRelease (src : Station) (dst : BitVec 4)
  | purge (src : Station) (dst : BitVec 4) (zone : Byte)
  | restart (origin : Origin)
  | laneCommandUnassigned (src : Station) (dst : BitVec 4) (code : Byte)
  | estopInput (asserted : Bool)
  | runOnInput (asserted : Bool)
  | statusLane (src : Station) (dst : BitVec 4) (index : Byte)
  | statusCounters (src : Station) (dst : BitVec 4) (index : Byte)
  | statusFaults (src : Station) (dst : BitVec 4) (index : Byte)
  | statusView (src : Station) (dst : BitVec 4) (index : Byte)
  | statusProbe (src : Station) (dst : BitVec 4) (index : Byte)
  | statusZone (src : Station) (dst : BitVec 4) (index : Byte)
  | accessWaitEnd
  | lineActivityDefer (begins : Bool)
  | collision
  | backoffWaitEnd
  | gapEnd
  | ownNoticeComplete
  | noticeDiscarded (levels : List Bool)
  | noticeTruncated
  | peerNoticeIgnored (src : Station) (dst : BitVec 4) (kind : Fin 15)
  | addressClash (dst : BitVec 4) (kind : Fin 15)
  | resetAsserted
  | bedSlotJudged (slot : Fin 5) (bits : BitVec 26)
  | statusRequestInvalid (src : Station) (dst : BitVec 4) (subject : Byte) (index : Byte)
deriving DecidableEq, Repr

end Sys2Proof
end

