-- ==== Sys2Proof/Machine/Framing.lean ====
section
/-! DEFINITION. The framing of a notice on the dock line (R127, R128, R195, R196): header, check word, bit
stuffing, the two marks, and the checks that take a received notice whole. A level is a Bool: `false` is driven
(a 0 bit), `true` is released (a 1 bit). -/

namespace Sys2Proof.Machine

/-- One bit into the check register: generator x^16 + x^12 + x^5 + 1, most significant bit first (R195). -/
def crcBit (reg : BitVec 16) (bit : Bool) : BitVec 16 :=
  if xor reg.msb bit then (reg <<< 1) ^^^ 0x1021#16 else reg <<< 1

/-- The eight bits of a byte, bit 7 first (R194, R195). -/
def byteBits (b : Byte) : List Bool :=
  [b.getLsbD 7, b.getLsbD 6, b.getLsbD 5, b.getLsbD 4, b.getLsbD 3, b.getLsbD 2, b.getLsbD 1, b.getLsbD 0]

/-- The bits of a byte string in the order sent (R195). -/
def bytesBits (bs : List Byte) : List Bool := bs.flatMap byteBits

/-- The check word over the header and body bytes: the register starts at all ones and is not inverted at the
end (R195). -/
def checkWord (bs : List Byte) : BitVec 16 := (bytesBits bs).foldl crcBit 0xFFFF#16

/-- The fixed body length of each assigned kind, in 2-byte units (R196). -/
def fixedUnits : Nat → Option Nat
  | 0 => some 14
  | 1 => some 2
  | 2 => some 2
  | 3 => some 4
  | 4 => some 2
  | 5 => some 2
  | 6 => some 3
  | 7 => some 2
  | 8 => some 1
  | 9 => some 3
  | 10 => some 14
  | 11 => some 4
  | 12 => some 1
  | 13 => some 14
  | 14 => some 1
  | _ => none

/-- The header bytes: source and kind, then destination and length (R196). -/
def header (src kind dst units : Nat) : List Byte := [BitVec.ofNat 8 (16 * src + kind), BitVec.ofNat 8 (16 * dst + units)]

/-- A whole notice's content: header, body and check word (R127). -/
def content (src kind dst : Nat) (body : List Byte) : List Byte :=
  let front := header src kind dst (body.length / 2) ++ body
  front ++ beBytes 2 (checkWord front).toNat

/-- Stuff bits inserted: after every run of five equal levels, the opposite level; the inserted level opens the
next run (R195). `last` and `run` are the level and the length of the run so far. -/
def stuffFrom (last : Bool) (run : Nat) : List Bool → List Bool
  | [] => []
  | b :: bs =>
    let r := if b = last then run + 1 else 1
    if r = 5 then b :: (!b) :: stuffFrom (!b) 1 bs else b :: stuffFrom b r bs

/-- The content's levels as sent, with stuff bits (R195). -/
def stuff (bs : List Bool) : List Bool := stuffFrom false 0 bs

/-- The receiver's reading: the level after any run of five equal levels is deleted (R195). -/
def destuffFrom (last : Bool) (run : Nat) : List Bool → List Bool
  | [] => []
  | b :: bs =>
    if run = 5 then destuffFrom b 1 bs
    else b :: destuffFrom b (if b = last then run + 1 else 1) bs

/-- The content bits of received levels, with the stuff bits deleted (R195). -/
def destuff (levels : List Bool) : List Bool := destuffFrom false 0 levels

/-- The start mark: driven, released, driven, released (R195). -/
def startMark : List Bool := [false, true, false, true]

/-- The end mark: seven driven bit times (R195). -/
def endMark : List Bool := [false, false, false, false, false, false, false]

/-- Every level a station drives for a notice, from the start mark to the end mark (R195). -/
def lineLevels (bytes : List Byte) : List Bool := startMark ++ stuff (bytesBits bytes) ++ endMark

/-- Eight bits as a byte, bit 7 first. -/
def bitsByte (b7 b6 b5 b4 b3 b2 b1 b0 : Bool) : Byte :=
  BitVec.ofNat 8 (flag b7 128 + flag b6 64 + flag b5 32 + flag b4 16 + flag b3 8 + flag b2 4 + flag b1 2 + flag b0 1)

/-- Content bits taken as whole bytes; none when their number is not a multiple of 8 (R195). -/
def bitsBytes : List Bool → Option (List Byte)
  | [] => some []
  | b7 :: b6 :: b5 :: b4 :: b3 :: b2 :: b1 :: b0 :: rest =>
    (bitsBytes rest).map (fun bs => bitsByte b7 b6 b5 b4 b3 b2 b1 b0 :: bs)
  | _ => none

/-- A notice taken apart: source, kind and destination nibbles, and the body. -/
structure RawNotice where
  src  : Nat
  kind : Nat
  dst  : Nat
  body : List Byte
deriving DecidableEq, Repr

/-- The checks of R128 on the content bytes of a notice that ended with its end mark: the body length agrees with
the length part, the check word is good, the kind is assigned, and the length is the kind's fixed length. -/
def takeWhole (bytes : List Byte) : Option RawNotice :=
  match bytes with
  | h0 :: h1 :: rest =>
    let body := rest.take (rest.length - 2)
    let src := h0.toNat / 16
    let kind := h0.toNat % 16
    let dst := h1.toNat / 16
    let units := h1.toNat % 16
    if 2 ≤ rest.length ∧ body.length = 2 * units ∧ beNat (rest.drop (rest.length - 2)) = (checkWord (h0 :: h1 :: body)).toNat
        ∧ fixedUnits kind = some units
    then some ⟨src, kind, dst, body⟩ else none
  | _ => none

/-- What a receiver makes of the levels between the start mark and the end mark (R128, R195). -/
def receiveLevels (levels : List Bool) : Option RawNotice := (bitsBytes (destuff levels)).bind takeWhole

/-- The fields of a Manifest body (kind 0, R198). -/
def manifestOfBody (b : List Byte) : Manifest where
  ident := BitVec.ofNat 32 (beAt b 0 4)
  load := BitVec.ofNat 16 (beAt b 4 2)
  seq := BitVec.ofNat 8 (beAt b 6 1)
  total := BitVec.ofNat 8 (beAt b 7 1)
  issueNext := BitVec.ofNat 9 (beAt b 8 2 / 128)
  tolClass := BitVec.ofNat 4 (beAt b 8 2 / 8)
  drop := BitVec.ofNat 4 (beAt b 10 1 / 16)
  base := BitVec.ofNat 2 (beAt b 10 1 / 4)
  wrapClass := BitVec.ofNat 2 (beAt b 10 1)
  sku := BitVec.ofNat 16 (beAt b 11 2)
  cases := BitVec.ofNat 16 (beAt b 13 2)
  unitMass := BitVec.ofNat 16 (beAt b 15 2)
  bandMin := BitVec.ofNat 8 (beAt b 17 1)
  bandMax := BitVec.ofNat 8 (beAt b 18 1)
  serial := BitVec.ofNat 40 (beAt b 19 5)
  lot := BitVec.ofNat 16 (beAt b 24 2)
  bestBefore := BitVec.ofNat 16 (beAt b 26 2)

/-- A manifest as the 28 bytes of a Manifest body (kind 0, R198). -/
def manifestBody (m : Manifest) : List Byte :=
  beBytes 4 m.ident.toNat ++ beBytes 2 m.load.toNat ++ beBytes 1 m.seq.toNat ++ beBytes 1 m.total.toNat
    ++ beBytes 2 (128 * m.issueNext.toNat + 8 * m.tolClass.toNat)
    ++ beBytes 1 (16 * m.drop.toNat + 4 * m.base.toNat + m.wrapClass.toNat)
    ++ beBytes 2 m.sku.toNat ++ beBytes 2 m.cases.toNat ++ beBytes 2 m.unitMass.toNat
    ++ beBytes 1 m.bandMin.toNat ++ beBytes 1 m.bandMax.toNat ++ beBytes 5 m.serial.toNat
    ++ beBytes 2 m.lot.toNat ++ beBytes 2 m.bestBefore.toNat

end Sys2Proof.Machine
end

