-- ==== Sys2Proof/WellFormed.lean ====
section
/-! DEFINITION. When a command's operands denote an event of its row. The types of the operands already keep every
number in range; what is left are the five checks below. The meanings are total all the same (log 18, 27, 29). -/

namespace Sys2Proof

/-- The kinds of notice a lane takes (R130). -/
def takenKind (kind : Fin 15) : Bool :=
  match kind.val with
  | 0 | 2 | 3 | 4 | 5 | 7 | 8 | 12 | 14 => true
  | _ => false

/-- The kinds a lane takes only when they are addressed to it or to all (R130). -/
def addressedKind (kind : Fin 15) : Bool := takenKind kind && !(kind.val == 3 || kind.val == 4 || kind.val == 5)

/-- The checks: the configuration block has its 256 bytes (R188); a discarded notice fails a check of R128; an
unassigned command code is none of 1..6 (R201); an invalid status subject is none of 0..5 (R201); an ignored notice
is of a kind the lane does not take, or is addressed to one station (R130). -/
def Instr.wellFormed : Instr → Bool
  | .configBlockRead bytes => bytes.length == 256
  | .noticeDiscarded levels => (Machine.receiveLevels levels).isNone
  | .laneCommandUnassigned _ _ code => code.toNat == 0 || decide (6 < code.toNat)
  | .statusRequestInvalid _ _ subject _ => decide (5 < subject.toNat)
  | .peerNoticeIgnored _ dst kind => !takenKind kind || (addressedKind kind && dst != 15#4)
  | _ => true

end Sys2Proof
end

