-- ==== Sys2Proof/Decode.lean ====
section
/-! DEFINITION. From bits to commands. No row of spec/opcode_table.json gives bits, so decodeTableWord answers none
(log 24). The commands that arrive as notices do have bytes (R195 to R198): noticeCommand reads the content bytes
of a received notice and answers the command it stands for. -/

namespace Sys2Proof

open Machine

/-- The command of a word, by the table's bits: no row gives any (log 24). -/
def decodeTableWord (_nbits _w : Nat) : Option Instr := none

/-- A source nibble as a station number; 15 is no station's (R127; log 13). -/
def stationOf (n : Nat) : Option Station := if h : n < 15 then some ⟨n, h⟩ else none

/-- A Lane Command body: the command code and the zone (R198, R201). -/
def laneCommandOf (src : Station) (dst : BitVec 4) (code zone : Byte) : Instr :=
  match code.toNat with
  | 1 => .start src dst
  | 2 => .stop src dst
  | 3 => .ack (.line src dst)
  | 4 => .forceRelease src dst
  | 5 => .purge src dst zone
  | 6 => .restart (.line src dst)
  | _ => .laneCommandUnassigned src dst code

/-- A Status Request body: the subject code and the index (R198, R201). -/
def statusRequestOf (src : Station) (dst : BitVec 4) (subject index : Byte) : Instr :=
  match subject.toNat with
  | 0 => .statusLane src dst index
  | 1 => .statusZone src dst index
  | 2 => .statusFaults src dst index
  | 3 => .statusView src dst index
  | 4 => .statusProbe src dst index
  | 5 => .statusCounters src dst index
  | _ => .statusRequestInvalid src dst subject index

/-- The command for a notice taken whole, by its kind and body (R130, R198). -/
def bodyCommand (src : Station) (kind : Fin 15) (dst : BitVec 4) (b : List Byte) : Instr :=
  match kind.val with
  | 0 => .manifest src dst (manifestOfBody b)
  | 2 => .manifestVoid src dst (BitVec.ofNat 32 (beAt b 0 4))
  | 3 => .claim src dst (BitVec.ofNat 16 (beAt b 0 2)) (BitVec.ofNat 8 (beAt b 2 1)) (beAt b 3 1 % 2 == 1) (BitVec.ofNat 32 (beAt b 4 4))
  | 4 => .released src dst (BitVec.ofNat 16 (beAt b 0 2)) (BitVec.ofNat 8 (beAt b 2 1))
  | 5 => .abandon src dst (BitVec.ofNat 16 (beAt b 0 2)) (BitVec.ofNat 8 (beAt b 2 1))
  | 7 => .skip src dst (BitVec.ofNat 16 (beAt b 0 2)) (BitVec.ofNat 16 (beAt b 2 2))
  | 8 => .loadClose src dst (BitVec.ofNat 16 (beAt b 0 2))
  | 12 => statusRequestOf src dst (BitVec.ofNat 8 (beAt b 0 1)) (BitVec.ofNat 8 (beAt b 1 1))
  | 14 => laneCommandOf src dst (BitVec.ofNat 8 (beAt b 0 1)) (BitVec.ofNat 8 (beAt b 1 1))
  | _ => .peerNoticeIgnored src dst kind

/-- The command of a notice taken apart; a source of 15 spells none, since it is no station's number (log 13). -/
def rawCommand (n : RawNotice) : Option Instr :=
  match stationOf n.src with
  | none => none
  | some src => if h : n.kind < 15 then some (bodyCommand src ⟨n.kind, h⟩ (BitVec.ofNat 4 n.dst) n.body) else none

/-- The command that a received notice's content bytes spell; none where the checks of R128 fail. -/
def noticeCommand (bytes : List Byte) : Option Instr := (takeWhole bytes).bind rawCommand

/-- The command that received levels stand for: the notice's own, or its discard under R128. -/
def levelsCommand (levels : List Bool) : Option Instr :=
  match receiveLevels levels with
  | none => some (.noticeDiscarded levels)
  | some n => rawCommand n

end Sys2Proof
end

