-- ==== Sys2Proof/Machine/State.lean ====
section
/-! DEFINITION. The state of the block, block by block as the overview's chapter 4 lists them: plain data, every
field named after the spec's word for it, and the state right after start-up (R193). -/

namespace Sys2Proof.Machine

/-! ## The lane and its pallets (chapter 1) -/

/-- The zone states of R1. -/
inductive ZoneState where
  | empty
  | arriving
  | occupied
  | ready
  | departing
deriving DecidableEq, Repr

/-- The thirteen reasons of R4, in the order of R201's reason word. -/
inductive Reason where
  | unknown
  | duplicate
  | voided
  | unsettled
  | under
  | over
  | offCentre
  | low
  | high
  | topNotFound
  | wrapFailed
  | labelFailed
  | orphan
deriving DecidableEq, Repr

/-- A reason set, as the reason word of R201: bit i stands for reason i. -/
abbrev ReasonSet := BitVec 13

/-- The wrap outcome of a record (R4). -/
inductive WrapOutcome where
  | none
  | skipped
  | done
  | aborted
deriving DecidableEq, Repr

/-- The label outcome of a record (R4); FAILED names the sides. -/
inductive LabelOutcome where
  | none
  | notNeeded
  | applied
  | failed (left right : Bool)
deriving DecidableEq, Repr

/-- The release stage of a record (R4, chapter 8.3). -/
inductive Stage where
  | waiting
  | claimQueued
  | claimWon
  | exiting
  | exited
deriving DecidableEq, Repr

/-- A pallet record (R4). -/
structure PalletRecord where
  tag          : BitVec 8
  zone         : Fin 10
  ident        : Option (BitVec 32)
  manifest     : Option Manifest
  reasons      : ReasonSet
  gross        : Option Int
  net          : Option Int
  deviation    : Option Int
  caseDev      : Option Int
  lateral      : Option Int
  longitudinal : Option Int
  height       : Option Int
  wrap         : WrapOutcome
  label        : LabelOutcome
  stage        : Stage
  arrival      : Ms
  verdictTime  : Option Ms
  orphan       : Bool
deriving DecidableEq, Repr

/-- A motion out of a zone: none; running since a Lane Clock value, with its timer; or abandoned by the lane's entry
into FAULT (R14; for the exit: stopped, R21). `expired` is the instant of the entry when the motion's timer had counted
its period at it and that expiry is not taken yet (log 30). -/
inductive Motion where
  | idle
  | running (since : Ms)
  | abandoned (expired : Option Ms)
deriving DecidableEq, Repr

/-- The Zone Sequencer: zone states, the transfers z to z + 1, the reject transfer and the exit. -/
structure ZoneSequencer where
  zones     : Vector ZoneState 9
  transfers : Vector Motion 8
  reject    : Motion
  exit      : Motion
deriving DecidableEq, Repr

/-- The Pallet Track: records by zone, the exit slot, the track tag counter (R5), the tag tracks issued count (R186). -/
structure PalletTrack where
  recs       : Vector (Option PalletRecord) 9
  exitSlot   : Option PalletRecord
  tagCounter : BitVec 8
  issued     : Nat
deriving DecidableEq, Repr

/-! ## Identification (chapter 2) -/

/-- The outstanding tag read: the noted track tag and the T_read timer (R29). -/
structure TagRead where
  awaiting : Option (BitVec 8)
  tRead    : Option Ms
deriving DecidableEq, Repr

/-- One entry of the Manifest Cache (R34). -/
structure CacheEntry where
  valid    : Bool
  ident    : BitVec 32
  manifest : Manifest
deriving DecidableEq, Repr

/-- One set of the Manifest Cache: four ways and the replacement bits (R34). -/
structure CacheSet where
  ways : Vector CacheEntry 4
  b0   : Bool
  b1   : Bool
  b2   : Bool
deriving DecidableEq, Repr

/-- The Manifest Cache: 16 sets (R34). -/
abbrev Cache := Vector CacheSet 16

/-- An entry of the Request Tracker (R40). `joined` says that its current Manifest Request has joined the Request
queue; while it is clear the request waits for a place. `tManifest` runs from the request's completion (R42). -/
structure TrackEntry where
  ident     : BitVec 32
  tag       : BitVec 8
  retries   : Nat
  joined    : Bool
  tManifest : Option Ms
deriving DecidableEq, Repr

/-! ## Weighing (chapter 3) -/

/-- How a slot was judged (R51). -/
inductive Judgement where
  | missed
  | good
  | saturated
deriving DecidableEq, Repr

/-- The Bed Link: held values, consecutive-miss counts, this frame's judgements so far, the slots of the frame in
progress that are judged, and whether BED_STROBE and BED_CLK are driven (R50, R51, R52, R55). -/
structure BedLink where
  held   : Vector (BitVec 24) 5
  miss   : Vector Nat 5
  judged : Vector (Option Judgement) 5
  slot   : Fin 6
  driven : Bool
deriving DecidableEq, Repr

/-- One entry of the settle window: the calibrated corner weights and the gross value G (R59). -/
structure Sample where
  w : Corners
  g : Int
deriving DecidableEq, Repr

/-- The weighing states of chapter 3.5. -/
inductive WeighState where
  | idle
  | blocked
  | settling
  | settled
  | expired
deriving DecidableEq, Repr

/-- The settled result: the four corner means and the mean gross (R61, R64). -/
structure Settlement where
  means : Corners
  gross : Int
deriving DecidableEq, Repr

/-- The Weigh Engine: the settle window, head first, with its running sums (R59), the weighing, and Zb (R67). -/
structure WeighEngine where
  window  : List Sample
  sumW    : Corners
  sumG    : Int
  state   : WeighState
  settled : Option Settlement
  tSettle : Option Ms
  zb      : Int
deriving DecidableEq, Repr

/-! ## Wrapping and labelling (chapters 5 and 6) -/

/-- A compare: armed mark, active and pending targets (R90, R120). -/
structure Compare where
  armed   : Bool
  active  : BitVec 16
  pending : BitVec 16
deriving DecidableEq, Repr

/-- The wrap states, in the order of R201's codes. -/
inductive WrapState where
  | idle
  | homing
  | start
  | bottom
  | rise
  | top
  | descend
  | park
  | cut
  | done
  | aborted
deriving DecidableEq, Repr

/-- The Wrap Controller: counters, captures, compares, run counts, timers, wrap state and its five outputs. `cls` is
the class of the wrap in progress (R113), `first` marks that the first capture after wrap start is still to come
(R87), `parkIndexes` counts the index pulses since the entry into PARK (R102), `stallDue` is the instant of an abort at which the
stall timer had reached its 2.0 s, while that expiry is not taken yet (R109; log 30). -/
structure WrapController where
  state        : WrapState
  angle        : BitVec 16
  rev          : Nat
  angleCapture : Option (BitVec 16)
  conveyor     : BitVec 16
  mast         : BitVec 16
  homed        : Bool
  mastCmp      : Compare
  angleCmp     : Compare
  capture      : Option (BitVec 16)
  lowRun       : Nat
  highRun      : Nat
  stall        : Option Ms
  stallDue     : Option Ms
  cutSince     : Option Ms
  cls          : Fin 4
  first        : Bool
  parkIndexes  : Nat
  turntable    : Bool
  carriageUp   : Bool
  carriageDown : Bool
  filmClamp    : Bool
  cutter       : Bool
deriving DecidableEq, Repr

/-- The phases of a label job (R114). -/
inductive JobPhase where
  | blocked
  | printing
  | consented
  | armed
  | fired
deriving DecidableEq, Repr

/-- The side states of a label job (R114). -/
inductive SideState where
  | pending
  | ready
  | error
  | fired
  | seen
  | missed
deriving DecidableEq, Repr

/-- A label job (R114). `counted` says that its firing is a motion in the motion count: it is cleared by the entry
into FAULT (R168). -/
structure Job where
  tag     : BitVec 8
  phase   : JobPhase
  left    : SideState
  right   : SideState
  mark    : Option (BitVec 16)
  tPrint  : Option Ms
  tApply  : Option Ms
  counted : Bool
deriving DecidableEq, Repr

/-- The label record that a PRINT carries (R117). -/
structure LabelRecord where
  serial     : BitVec 40
  load       : BitVec 16
  seq        : BitVec 8
  total      : BitVec 8
  drop       : BitVec 4
  sku        : BitVec 16
  lot        : BitVec 16
  bestBefore : BitVec 16
  netFigure  : Int
  heightCm   : Int
deriving DecidableEq, Repr

/-- What the DL48 sends on a label link (R115). -/
inductive LabelMsg where
  | print (r : LabelRecord)
  | discard
deriving DecidableEq, Repr

/-- The Label Controller: the job of the TABLE record, the FIRED job of a record that has left TABLE, the conveyor
compare, the applicator outputs with their pulse timer, and the last message sent on each link (R114, R121; log 21). -/
structure LabelController where
  tableJob : Option Job
  labelJob : Option Job
  cmp      : Compare
  applyL   : Bool
  applyR   : Bool
  pulse    : Option Ms
  txL      : Option LabelMsg
  txR      : Option LabelMsg
deriving DecidableEq, Repr

/-! ## The dock line and release sequencing (chapters 7 and 8) -/

/-- A claim that a load entry holds, with the start of its T_claim timer (R141). -/
structure ClaimHeld where
  station : Station
  seq     : BitVec 8
  since   : Ms
deriving DecidableEq, Repr

/-- A load entry (R141). `next` is 1..256. -/
structure LoadEntry where
  load    : BitVec 16
  next    : Nat
  total   : BitVec 8
  claim   : Option ClaimHeld
  count   : Nat
  closing : Bool
deriving DecidableEq, Repr

/-- The Load View: entries in recency order, head first, and the view skip count (R141, R153). -/
structure LoadView where
  entries : List LoadEntry
  skips   : Nat
deriving DecidableEq, Repr

/-- The Release Unit: the follow-up reservation, the force mark, the stall timer (R154). -/
structure ReleaseUnit where
  followUp : Bool
  force    : Bool
  stall    : Option Ms
deriving DecidableEq, Repr

/-- The fault kinds, in the order of R201's numbers. -/
inductive FaultKind where
  | estop
  | jam
  | overlength
  | filmBreak
  | mastLost
  | turntableStall
  | exitTimeout
  | duplicateAtFront
  | doubleClaim
  | filmLow
  | forceLost
  | forceHigh
  | turntableSlip
  | labelLow
  | cellLost
  | bedNotZero
  | addressClash
deriving DecidableEq, Repr

/-- The notices a lane puts on its three queues (R137). A Manifest Request keeps the track tag of the entry it was
made for, which does not go on the line; a Status Reply part and a Fault Report keep the body composed for them. -/
inductive Notice where
  | claim (load : BitVec 16) (seq : BitVec 8) (forced : Bool) (ident : BitVec 32)
  | released (load : BitVec 16) (seq : BitVec 8)
  | abandon (load : BitVec 16) (seq : BitVec 8)
  | withdrawn (load : BitVec 16) (seq : BitVec 8) (reasons : ReasonSet)
  | stalled (load : BitVec 16) (seq : BitVec 8) (next : Nat)
  | manifestRequest (ident : BitVec 32) (tag : BitVec 8)
  | statusReply (dst : Station) (body : List Byte)
  | faultReport (body : List Byte)
deriving DecidableEq, Repr

/-- The transmit sources, in their cyclic order (R140). -/
inductive Source where
  | sequence
  | request
  | report
  | ring
deriving DecidableEq, Repr

/-- The line states (R131). -/
inductive LineState where
  | idle
  | defer
  | send
  | gap
  | backoff
deriving DecidableEq, Repr

/-- The Dock Line Interface. `inFlight` names the source whose head is in flight (R137), `marked` its mark for
removal (R138), `driving` the content bytes being driven (R127), `activity` other stations' line activity (R126),
`waitSlots` the d of the wait being counted (R131, R133). -/
structure DockLine where
  state      : LineState
  lastSender : Station
  retry      : Nat
  congested  : Bool
  collisions : Nat
  trainPos   : Nat
  restartSrc : Option Source
  lineErrors : Nat
  inFlight   : Option Source
  marked     : Bool
  driving    : Option (List Byte)
  activity   : Bool
  waitSlots  : Nat
deriving DecidableEq, Repr

/-- A Stalled notice's load, sequence and next, with the instant in which it is formed (R163). -/
structure StalledNote where
  load   : BitVec 16
  seq    : BitVec 8
  next   : Nat
  formed : Ms
deriving DecidableEq, Repr

/-- The Transmit Arbiter: the three queues, head first, the reject transfer's reservation and the round-robin pointer
(R137, R140). `unplaced` is the last Stalled notice that found no place free; `ahead` is the instant in which a Stalled
notice has joined before the row of its expiry was given. Both are the model's own, for the order of the joins of one
instant (R137; log 33). -/
structure Arbiter where
  sequence       : List Notice
  request        : List Notice
  report         : List Notice
  rejectReserved : Bool
  pointer        : Source
  unplaced       : Option StalledNote
  ahead          : Option Ms
deriving DecidableEq, Repr

/-! ## Records, faults, pins (chapters 9 to 11) -/

/-- How a record left the track (R7). -/
inductive DispatchOutcome where
  | released
  | rejected
  | purged
  | cleared
deriving DecidableEq, Repr

/-- A dispatch record (R181); an absent measurement is `none`. -/
structure DispatchRecord where
  tag          : BitVec 8
  ident        : BitVec 32
  load         : BitVec 16
  seq          : BitVec 8
  serial       : BitVec 40
  outcome      : DispatchOutcome
  reasons      : ReasonSet
  wrap         : WrapOutcome
  label        : LabelOutcome
  net          : Option Int
  height       : Option Int
  lateral      : Option Int
  longitudinal : Option Int
  caseDev      : Option Int
  time         : Ms
deriving DecidableEq, Repr

/-- The Dispatch Ring, oldest first, and the records-lost count (R182, R184). -/
structure DispatchRing where
  records : List DispatchRecord
  lost    : Nat
deriving DecidableEq, Repr

/-- The lane states (R166). -/
inductive LaneState where
  | config
  | unconfigured
  | stopped
  | running
  | stopping
  | fault
deriving DecidableEq, Repr

/-- A fault list entry (R173); its class follows from its kind (R177). -/
structure FaultEntry where
  kind    : FaultKind
  zone    : Option (Fin 11)
  raises  : Nat
  since   : Ms
  present : Bool
deriving DecidableEq, Repr

/-- The lane commands (R169). -/
inductive Command where
  | start
  | stop
  | ack
  | forceRelease
  | purge (zone : Byte)
  | restart
deriving DecidableEq, Repr

/-- The results of a lane command (R201). -/
inductive Result where
  | accepted
  | refusedState
  | refusedNothing
  | refusedBusy
  | refusedZone
deriving DecidableEq, Repr

/-- The last command result (R169); `origin` is none for PUSH. -/
structure CommandResult where
  command : Command
  result  : Result
  origin  : Option Station
  time    : Ms
deriving DecidableEq, Repr

/-- The Fault Monitor: lane state, motion count, fault list, overflow marker, last command result, and LANE_LAMP with
the start of its phase (R166, R168, R173, R175, R169, R180). -/
structure FaultMonitor where
  lane      : LaneState
  motions   : Nat
  faults    : List FaultEntry
  overflow  : Bool
  last      : Option CommandResult
  lamp      : Bool
  lampSince : Option Ms
deriving DecidableEq, Repr

/-- The input pins as levels (chapter 11.7): an eye's level is true while it is blocked, another input's while it is
asserted. -/
structure Inputs where
  eyes        : Vector Bool 9
  exitEye     : Bool
  rejectEye   : Bool
  mergeClear  : Bool
  rejectFull  : Bool
  topEye      : Bool
  mastHome    : Bool
  filmLow     : Bool
  labelMark   : Bool
  appliedL    : Bool
  appliedR    : Bool
  labelLowL   : Bool
  labelLowR   : Bool
  estop       : Bool
  runOn       : Bool
  ackPush     : Bool
  restartPush : Bool
  resetPin    : Bool
deriving DecidableEq, Repr

/-- The output pins of the Zone Sequencer (R2), and the track tag of the last read request sent on the tag link
(R29; log 21). The other outputs stand with the blocks that drive them. -/
structure Outputs where
  zoneDrive : Vector Bool 9
  exitOut   : Bool
  rejectOut : Bool
  tagTx     : Option (BitVec 8)
deriving DecidableEq, Repr

/-- The whole state of the block, and the queue of the commands that wait. `free` counts the free choices taken so
far (log 8). -/
structure State where
  clock   : Ms
  image   : Option Image
  inp     : Inputs
  out     : Outputs
  seq     : ZoneSequencer
  track   : PalletTrack
  read    : TagRead
  cache   : Cache
  tracker : List TrackEntry
  bed     : BedLink
  weigh   : WeighEngine
  wrap    : WrapController
  label   : LabelController
  view    : LoadView
  rel     : ReleaseUnit
  line    : DockLine
  tx      : Arbiter
  ring    : DispatchRing
  mon     : FaultMonitor
  free    : Nat
  pending : List Instr
deriving DecidableEq, Repr

/-- No command stops the machine with a fault: the spec's faults are entries of the Fault Monitor (R173), not
stops of the part. Nothing raises one. -/
inductive Fault where
deriving DecidableEq, Repr

/-- The refusals. `notModelled` is declared for exec's arms and is raised by none: every command has its meaning
(safe). -/
inductive Refusal where
  | notModelled (mnemonic : String)
deriving DecidableEq, Repr

/-! ## Start-up values (R193 and the chapter that specifies each) -/

/-- The zero manifest: what an invalid cache entry holds at start-up, "of no account" (R34). -/
def blankManifest : Manifest where
  ident := 0
  load := 0
  seq := 0
  total := 0
  issueNext := 0
  drop := 0
  base := 0
  wrapClass := 0
  tolClass := 0
  sku := 0
  cases := 0
  unitMass := 0
  bandMin := 0
  bandMax := 0
  serial := 0
  lot := 0
  bestBefore := 0

/-- A set of the cache at start-up: four invalid ways, bits 0 (R34). -/
def CacheSet.startUp : CacheSet := ⟨Vector.replicate 4 ⟨false, 0, blankManifest⟩, false, false, false⟩

/-- Input levels right after power-on: every input clear or deasserted. DESIGN CHOICE, unsafe (log 1). -/
def Inputs.startUp : Inputs where
  eyes := Vector.replicate 9 false
  exitEye := false
  rejectEye := false
  mergeClear := false
  rejectFull := false
  topEye := false
  mastHome := false
  filmLow := false
  labelMark := false
  appliedL := false
  appliedR := false
  labelLowL := false
  labelLowR := false
  estop := false
  runOn := false
  ackPush := false
  restartPush := false
  resetPin := false

/-- A compare at start-up: disarmed with targets 0 (R90, R114). -/
def Compare.startUp : Compare := ⟨false, 0, 0⟩

/-- The Wrap Controller at start-up (5.12). -/
def WrapController.startUp : WrapController where
  state := .idle
  angle := 0
  rev := 0
  angleCapture := none
  conveyor := 0
  mast := 0
  homed := false
  mastCmp := Compare.startUp
  angleCmp := Compare.startUp
  capture := none
  lowRun := 0
  highRun := 0
  stall := none
  stallDue := none
  cutSince := none
  cls := 0
  first := false
  parkIndexes := 0
  turntable := false
  carriageUp := false
  carriageDown := false
  filmClamp := false
  cutter := false

/-- The Weigh Engine at start-up (3.7). -/
def WeighEngine.startUp : WeighEngine := ⟨[], Corners.zero, 0, .idle, none, none, 0⟩

/-- The Dock Line Interface at start-up (7.9). The last sender stands for the own number, which the image gives
later (log 2). -/
def DockLine.startUp : DockLine where
  state := .idle
  lastSender := 0
  retry := 0
  congested := false
  collisions := 0
  trainPos := 0
  restartSrc := none
  lineErrors := 0
  inFlight := none
  marked := false
  driving := none
  activity := false
  waitSlots := 0

/-- The machine right after start-up, with the reading of the configuration block begun (R193): lane state CONFIG,
every block at its start-up values, no command waiting. -/
def State.reset : State where
  clock := 0
  image := none
  inp := Inputs.startUp
  out := ⟨Vector.replicate 9 false, false, false, none⟩
  seq := ⟨Vector.replicate 9 .empty, Vector.replicate 8 .idle, .idle, .idle⟩
  track := ⟨Vector.replicate 9 none, none, 0, 0⟩
  read := ⟨none, none⟩
  cache := Vector.replicate 16 CacheSet.startUp
  tracker := []
  bed := ⟨Vector.replicate 5 0, Vector.replicate 5 0, Vector.replicate 5 none, 0, false⟩
  weigh := WeighEngine.startUp
  wrap := WrapController.startUp
  label := ⟨none, none, Compare.startUp, false, false, none, none, none⟩
  view := ⟨[], 0⟩
  rel := ⟨false, false, none⟩
  line := DockLine.startUp
  tx := ⟨[], [], [], false, .sequence, none, none⟩
  ring := ⟨[], 0⟩
  mon := ⟨.config, 0, [], false, none, false, none⟩
  free := 0
  pending := []

end Sys2Proof.Machine
end

