-- ==== Sys2Proof/Machine/Codes.lean ====
section
/-! DEFINITION. The code tables of R201, and the class of each fault kind (R177). -/

namespace Sys2Proof.Machine

/-- Zone state codes (R201). -/
def ZoneState.code : ZoneState → Nat
  | .empty => 0
  | .arriving => 1
  | .occupied => 2
  | .ready => 3
  | .departing => 4

/-- Lane state codes (R201). -/
def LaneState.code : LaneState → Nat
  | .config => 0
  | .unconfigured => 1
  | .stopped => 2
  | .running => 3
  | .stopping => 4
  | .fault => 5

/-- Wrap outcome codes (R201). -/
def WrapOutcome.code : WrapOutcome → Nat
  | .none => 0
  | .skipped => 1
  | .done => 2
  | .aborted => 3

/-- Label outcome codes (R201). -/
def LabelOutcome.code : LabelOutcome → Nat
  | .none => 0
  | .notNeeded => 1
  | .applied => 2
  | .failed _ _ => 3

/-- The failed side L of a label outcome. -/
def LabelOutcome.failedLeft : LabelOutcome → Bool
  | .failed l _ => l
  | _ => false

/-- The failed side R of a label outcome. -/
def LabelOutcome.failedRight : LabelOutcome → Bool
  | .failed _ r => r
  | _ => false

/-- Dispatch outcome codes (R201). -/
def DispatchOutcome.code : DispatchOutcome → Nat
  | .released => 0
  | .rejected => 1
  | .purged => 2
  | .cleared => 3

/-- Release stage codes (R201). -/
def Stage.code : Stage → Nat
  | .waiting => 0
  | .claimQueued => 1
  | .claimWon => 2
  | .exiting => 3
  | .exited => 4

/-- Weighing state codes (R201). -/
def WeighState.code : WeighState → Nat
  | .idle => 0
  | .blocked => 1
  | .settling => 2
  | .settled => 3
  | .expired => 4

/-- Wrap state codes (R201). -/
def WrapState.code : WrapState → Nat
  | .idle => 0
  | .homing => 1
  | .start => 2
  | .bottom => 3
  | .rise => 4
  | .top => 5
  | .descend => 6
  | .park => 7
  | .cut => 8
  | .done => 9
  | .aborted => 10

/-- Job phase codes; 0 is no job (R201). -/
def JobPhase.code : JobPhase → Nat
  | .blocked => 1
  | .printing => 2
  | .consented => 3
  | .armed => 4
  | .fired => 5

/-- Side state codes; 0 is no job (R201). -/
def SideState.code : SideState → Nat
  | .pending => 1
  | .ready => 2
  | .error => 3
  | .fired => 4
  | .seen => 5
  | .missed => 6

/-- Fault kind numbers (R201). -/
def FaultKind.code : FaultKind → Nat
  | .estop => 0
  | .jam => 1
  | .overlength => 2
  | .filmBreak => 3
  | .mastLost => 4
  | .turntableStall => 5
  | .exitTimeout => 6
  | .duplicateAtFront => 7
  | .doubleClaim => 8
  | .filmLow => 9
  | .forceLost => 10
  | .forceHigh => 11
  | .turntableSlip => 12
  | .labelLow => 13
  | .cellLost => 14
  | .bedNotZero => 15
  | .addressClash => 16

/-- The class IMMEDIATE, fixed by the kind; the others are DEFERRED (R177). -/
def FaultKind.immediate : FaultKind → Bool
  | .estop | .jam | .overlength | .filmBreak | .mastLost | .turntableStall | .exitTimeout | .duplicateAtFront
  | .doubleClaim => true
  | _ => false

/-- The kinds whose cause is a condition the lane observes; the cause of the others lies in an event that has
passed, and is gone when ACK is given (R177). -/
def FaultKind.observed : FaultKind → Bool
  | .estop | .duplicateAtFront | .filmLow | .forceLost | .labelLow | .cellLost => true
  | _ => false

/-- Zone numbers in fault entries; 15 means none (R201). -/
def zoneNumber : Option (Fin 11) → Nat
  | some z => z.val
  | none => 15

/-- Command codes (R201). -/
def Command.code : Command → Nat
  | .start => 1
  | .stop => 2
  | .ack => 3
  | .forceRelease => 4
  | .purge _ => 5
  | .restart => 6

/-- Result codes (R201). -/
def Result.code : Result → Nat
  | .accepted => 0
  | .refusedState => 1
  | .refusedNothing => 2
  | .refusedBusy => 3
  | .refusedZone => 4

end Sys2Proof.Machine
end

