-- ==== Sys2Proof/Machine/Ops.lean ====
section
/-! DEFINITION. The named operations on the state that every block shares: reading and writing zones, records,
transfers and reasons; the Lane Clock's timers; the Load View's list; the Sequence queue's places; the Request
Tracker; the lane state and the fault list's flags. -/

namespace Sys2Proof.Machine

/-! ## Names of the zones (overview chapter 3) -/

abbrev zIn : Fin 9 := 0
abbrev zBed : Fin 9 := 1
abbrev zTable : Fin 9 := 2
abbrev zLabel : Fin 9 := 3
abbrev zDivert : Fin 9 := 4
abbrev zFront : Fin 9 := 8

/-- The zones in flow order, IN to FRONT. -/
def allZones : List (Fin 9) := [0, 1, 2, 3, 4, 5, 6, 7, 8]

/-! ## Reading the state -/

/-- The configuration image's values (R188). -/
def State.cfg (s : State) : Image := s.image.getD Image.blank

/-- The station's own number (R127). -/
def State.own (s : State) : Station := s.cfg.station

/-- The lane works in STOPPED, RUNNING, STOPPING and FAULT, and not in CONFIG and UNCONFIGURED (R8). -/
def State.working (s : State) : Bool :=
  match s.mon.lane with
  | .config => false
  | .unconfigured => false
  | _ => true

/-- The lane is RUNNING (R8). -/
def State.running (s : State) : Bool := s.mon.lane == .running

/-- The state of zone `z` (R1). -/
def State.zone (s : State) (z : Fin 9) : ZoneState := s.seq.zones[z.val]

/-- The record that stands in zone `z` (R6). -/
def State.pallet (s : State) (z : Fin 9) : Option PalletRecord := s.track.recs[z.val]

/-- The arrival eye of zone `z` is blocked (chapter 1.1). -/
def State.eye (s : State) (z : Fin 9) : Bool := s.inp.eyes[z.val]

/-- The transfer from `z` to `z + 1` (R11). -/
def State.transfer (s : State) (z : Fin 8) : Motion := s.seq.transfers[z.val]

/-- The consecutive-miss count of a slot (R55). -/
def State.missCount (s : State) (i : Fin 5) : Nat := s.bed.miss[i.val]

/-- The set of an ident: the ident modulo 16 (R34). -/
def setOf (ident : BitVec 32) : Fin 16 := ⟨ident.toNat % 16, Nat.mod_lt _ (by decide)⟩

/-- The cache set with number `i` (R34). -/
def State.cacheSet (s : State) (i : Fin 16) : CacheSet := s.cache[i.val]

/-! ## Writing the state -/

/-- Zone `z` takes the state `v`. -/
def State.setZone (s : State) (z : Fin 9) (v : ZoneState) : State :=
  { s with seq := { s.seq with zones := s.seq.zones.set z.val v z.isLt } }

/-- Zone `z` holds `r`. -/
def State.setPallet (s : State) (z : Fin 9) (r : Option PalletRecord) : State :=
  { s with track := { s.track with recs := s.track.recs.set z.val r z.isLt } }

/-- The record of zone `z`, if any, is changed by `f`. -/
def State.updPallet (s : State) (z : Fin 9) (f : PalletRecord → PalletRecord) : State :=
  s.setPallet z ((s.pallet z).map f)

/-- The transfer from `z` takes the motion `m`. -/
def State.setTransfer (s : State) (z : Fin 8) (m : Motion) : State :=
  { s with seq := { s.seq with transfers := s.seq.transfers.set z.val m z.isLt } }

/-- The level of an eye changes. -/
def State.setEye (s : State) (e : Eye) (blocked : Bool) : State :=
  match e with
  | .zone z => { s with inp := { s.inp with eyes := s.inp.eyes.set z.val blocked z.isLt } }
  | .exit => { s with inp := { s.inp with exitEye := blocked } }
  | .reject => { s with inp := { s.inp with rejectEye := blocked } }

/-- The level of an eye. -/
def State.eyeLevel (s : State) : Eye → Bool
  | .zone z => s.eye z
  | .exit => s.inp.exitEye
  | .reject => s.inp.rejectEye

/-! ## Reasons (R4) -/

/-- The bit of the reason word (R201). -/
def Reason.bit : Reason → Nat
  | .unknown => 0
  | .duplicate => 1
  | .voided => 2
  | .unsettled => 3
  | .under => 4
  | .over => 5
  | .offCentre => 6
  | .low => 7
  | .high => 8
  | .topNotFound => 9
  | .wrapFailed => 10
  | .labelFailed => 11
  | .orphan => 12

/-- The set with just `r` (R201). -/
def Reason.word (r : Reason) : ReasonSet := BitVec.ofNat 13 (2 ^ r.bit)

/-- `r` is in the set. -/
def hasReason (set : ReasonSet) (r : Reason) : Bool := set.getLsbD r.bit

/-- A reason is added; one already in the set leaves the set as it was (R4). -/
def PalletRecord.addReason (p : PalletRecord) (r : Reason) : PalletRecord := { p with reasons := p.reasons ||| r.word }

/-- A pallet passes while its reason set is empty (R4). -/
def PalletRecord.passes (p : PalletRecord) : Bool := p.reasons == 0#13

/-- The record of zone `z` gets the reason `r`. -/
def State.addReason (s : State) (z : Fin 9) (r : Reason) : State := s.updPallet z (·.addReason r)

/-- The record holds the reason. -/
def PalletRecord.holds (p : PalletRecord) (r : Reason) : Bool := hasReason p.reasons r

/-- A record's identification is resolved (R32); an orphan is treated as resolved. -/
def PalletRecord.resolved (p : PalletRecord) : Bool :=
  p.manifest.isSome || p.holds .unknown || p.holds .duplicate || p.holds .voided || p.orphan

/-- A record is waiting for its manifest (R32). -/
def PalletRecord.waiting (p : PalletRecord) : Bool := p.ident.isSome && !p.resolved

/-- A record at its creation in zone `z` (R4). -/
def PalletRecord.fresh (tag : BitVec 8) (z : Fin 9) (now : Ms) (orphan : Bool) : PalletRecord where
  tag := tag
  zone := z.castSucc
  ident := none
  manifest := none
  reasons := if orphan then Reason.orphan.word else 0
  gross := none
  net := none
  deviation := none
  caseDev := none
  lateral := none
  longitudinal := none
  height := none
  wrap := .none
  label := .none
  stage := .waiting
  arrival := now
  verdictTime := none
  orphan := orphan

/-- A new record is created in zone `z`: it takes the track tag counter's value, the counter increments modulo 256,
and the tag tracks issued count increments (R5, R186). -/
def State.createRecord (s : State) (z : Fin 9) (orphan : Bool) : State :=
  let p := PalletRecord.fresh s.track.tagCounter z s.clock orphan
  let s1 := s.setPallet z (some p)
  { s1 with track := { s1.track with tagCounter := s.track.tagCounter + 1, issued := satSucc 65535 s.track.issued } }

/-- FRONT holds a record carrying DUPLICATE (R170, R172). -/
def State.frontDuplicate (s : State) : Bool :=
  match s.pallet zFront with
  | some p => p.holds .duplicate
  | none => false

/-! ## Timers on the Lane Clock (R192) -/

/-- The time counted since `since`, modulo 2^32 (R192). -/
def elapsed (now since : Ms) : Nat := (now - since).toNat

/-- A timer has counted its period. -/
def dueAt (now : Ms) (period : Nat) : Option Ms → Bool
  | none => false
  | some t => decide (period ≤ elapsed now t)

/-- The instant `now` for a timer that has counted its period (log 30). -/
def notedAt (now : Ms) (period : Nat) (timer : Option Ms) : Option Ms := if dueAt now period timer then some now else none

/-- The Lane Clock at the expiry of a timer: the present value once the period has been counted, else the value at
which it will have been (log 4). -/
def expiryClock (now since : Ms) (period : Nat) : Ms :=
  if period ≤ elapsed now since then now else since + BitVec.ofNat 32 period

/-- The expiry of a timer: `f` at the Lane Clock of the expiry; a stopped timer does not expire (log 4). -/
def State.onExpiry (s : State) (timer : Option Ms) (period : Nat) (f : State → State) : State :=
  match timer with
  | none => s
  | some t => f { s with clock := expiryClock s.clock t period }

/-- The expiry of a motion's timer: of a running motion as `onExpiry` has it; of an abandoned one in the instant in which
it was noted, and in no other (R174; log 30). -/
def State.onMotionExpiry (s : State) (m : Motion) (period : Nat) (f : State → State) : State :=
  match m with
  | .running since => s.onExpiry (some since) period f
  | .abandoned (some t) => if t = s.clock then f s else s
  | _ => s

/-- A motion whose noted expiry has been taken. -/
def Motion.taken : Motion → Motion
  | .abandoned _ => .abandoned none
  | m => m

/-- An expiry of the motion's timer is to be taken at the clock's value. -/
def Motion.due (now : Ms) (period : Nat) : Motion → Bool
  | .running since => dueAt now period (some since)
  | .abandoned expired => expired == some now
  | .idle => false

/-- A count of 0.1 s units in milliseconds. -/
def tenths (n : Nat) : Nat := 100 * n

/-- A count of whole seconds in milliseconds. -/
def seconds (n : Nat) : Nat := 1000 * n

/-! ## Free choices (log 8) -/

/-- `x` put at place `i` of a list, or at its end. -/
def insertAt {α : Type} (x : α) : Nat → List α → List α
  | 0, l => x :: l
  | _ + 1, [] => [x]
  | n + 1, y :: l => y :: insertAt x n l

/-- The list in an order that the free values from number `k` on decide: any order can come out (log 8). -/
def shuffled {α : Type} (k : Nat) : List α → List α
  | [] => []
  | x :: l => insertAt x (Config.freeOrder k % (l.length + 1)) (shuffled (k + 1) l)

/-- Things that come in one instant, taken in either order (R137, R174, R191). Fewer than two have one order. -/
def eitherOrder {α : Type} (k : Nat) (l : List α) : List α :=
  match l with
  | [] => []
  | [x] => [x]
  | l => shuffled k l

/-! ## Lane state and fault list flags (chapter 9) -/

/-- The lane takes the state `l`. A change begins LANE_LAMP's phase anew with the lamp on; in CONFIG the lamp is
off (R180). -/
def State.setLane (s : State) (l : LaneState) : State :=
  if s.mon.lane = l then s
  else { s with mon := { s.mon with lane := l, lamp := !(l == .config), lampSince := some s.clock } }

/-- The fault list holds an entry of the kind (R176). -/
def State.listed (s : State) (k : FaultKind) : Bool := s.mon.faults.any (fun e => e.kind == k)

/-- The raising block says that the cause of a kind is gone: the flag of its entry is cleared (R177). -/
def State.causeGone (s : State) (k : FaultKind) : State :=
  { s with mon := { s.mon with faults := s.mon.faults.map (fun e => if e.kind = k then { e with present := false } else e) } }

/-- The line error count increments, saturating (R128). -/
def State.countLineError (s : State) : State :=
  { s with line := { s.line with lineErrors := satSucc 65535 s.line.lineErrors } }

/-! ## The Sequence queue's places (R137) -/

/-- The places of the Sequence queue in use: notices and reservations (R137). -/
def State.seqUsed (s : State) : Nat := s.tx.sequence.length + flag s.rel.followUp 1 + flag s.tx.rejectReserved 1

/-- The free places of the Sequence queue (R137). -/
def State.seqFree (s : State) : Nat := 8 - s.seqUsed

/-- A notice joins the Sequence queue at the tail. -/
def State.joinSequence (s : State) (n : Notice) : State := { s with tx := { s.tx with sequence := s.tx.sequence ++ [n] } }

/-- A notice joins in the follow-up reservation, which is spent (R154). Without a reservation it joins only a free
place (log 20). -/
def State.joinFollowUp (s : State) (n : Notice) : State :=
  if s.rel.followUp then { s with rel := { s.rel with followUp := false } }.joinSequence n
  else if 0 < s.seqFree then s.joinSequence n
  else s

/-- The Withdrawn notice joins in the reject transfer's reservation, which is spent (R18). Without a reservation it
joins only a free place (log 20). -/
def State.joinWithdrawn (s : State) (n : Notice) : State :=
  if s.tx.rejectReserved then { s with tx := { s.tx with rejectReserved := false } }.joinSequence n
  else if 0 < s.seqFree then s.joinSequence n
  else s

/-- The follow-up reservation is released without a notice (R154). -/
def State.releaseFollowUp (s : State) : State := { s with rel := { s.rel with followUp := false } }

/-! ## The Request queue and the Request Tracker (R40, R45, R138) -/

/-- The request of a tracker entry's tag is the one in flight (R137). -/
def State.requestInFlight (s : State) (tag : BitVec 8) : Bool :=
  match s.line.inFlight, s.tx.request with
  | some .request, .manifestRequest _ t :: _ => t == tag
  | _, _ => false

/-- The notice is not the Manifest Request of this tag. -/
def notRequestOf (tag : BitVec 8) : Notice → Bool
  | .manifestRequest _ t => t != tag
  | _ => true

/-- A tracker entry's waiting request is removed; one in flight is marked for removal (R45, R138). -/
def State.removeRequest (s : State) (tag : BitVec 8) : State :=
  if s.requestInFlight tag then { s with line := { s.line with marked := true } }
  else { s with tx := { s.tx with request := s.tx.request.filter (notRequestOf tag) } }

/-- The tracker entries of a track tag are freed, with their timers and their requests (R45). -/
def State.freeEntry (s : State) (tag : BitVec 8) : State :=
  if s.tracker.any (fun e => e.tag == tag) then
    { s.removeRequest tag with tracker := s.tracker.filter (fun e => e.tag != tag) }
  else s

/-! ## The Load View's list (R141, R142) -/

/-- The entry of a load (R141). -/
def State.loadEntry (s : State) (load : BitVec 16) : Option LoadEntry := s.view.entries.find? (fun e => e.load == load)

/-- The list without the entry of a load. -/
def withoutLoad (load : BitVec 16) (l : List LoadEntry) : List LoadEntry := l.filter (fun e => e.load != load)

/-- A touched entry moves to the head with its new contents; the others keep their order (R142). -/
def State.putTouched (s : State) (e : LoadEntry) : State :=
  { s with view := { s.view with entries := e :: withoutLoad e.load s.view.entries } }

/-- An entry changes in place, untouched (R142). -/
def State.putInPlace (s : State) (e : LoadEntry) : State :=
  { s with view := { s.view with entries := s.view.entries.map (fun x => if x.load = e.load then e else x) } }

/-- The entry of a load is removed, its claim timer with it (R145, R151). -/
def State.removeLoad (s : State) (load : BitVec 16) : State :=
  { s with view := { s.view with entries := withoutLoad load s.view.entries } }

/-- The least recently touched entry whose count is 0: the last such in the list (R143). -/
def evictee (l : List LoadEntry) : Option LoadEntry := l.reverse.find? (fun e => e.count == 0)

/-- The larger of an entry's next and `n`, within 1..256. -/
def raisedNext (old n : Nat) : Nat := min 256 (max old n)

/-- An entry is created at the head for a load that has none, from a manifest (R143); when the list is full the least
recently touched entry with count 0 is removed first. A full list without such an entry is left as it is (log 20). -/
def State.createLoad (s : State) (m : Manifest) : State :=
  let e : LoadEntry := ⟨m.load, raisedNext 1 m.issueNext.toNat, m.total, none, 0, false⟩
  if s.view.entries.length < 16 then s.putTouched e
  else
    match evictee s.view.entries with
    | some v => (s.removeLoad v.load).putTouched e
    | none => s

/-- A pallet of the load has been identified: the entry is created if there is none, touched, and its count
incremented (R39, R144). -/
def State.countIdentified (s : State) (m : Manifest) : State :=
  let s1 := if (s.loadEntry m.load).isSome then s else s.createLoad m
  match s1.loadEntry m.load with
  | some e => s1.putTouched { e with count := e.count + 1 }
  | none => s1

/-- An identified record has left the track: the count of its load is decremented, and a closing entry whose count
reaches 0 is removed (R145). -/
def State.countLeft (s : State) (load : BitVec 16) : State :=
  match s.loadEntry load with
  | none => s
  | some e =>
    if e.count ≤ 1 ∧ e.closing = true then s.removeLoad load
    else s.putInPlace { e with count := e.count - 1 }

/-! ## The settle window (R60) -/

/-- The window is emptied: no entries, the five sums 0 (R60). -/
def State.emptyWindow (s : State) : State :=
  { s with weigh := { s.weigh with window := [], sumW := Corners.zero, sumG := 0 } }

/-- A weighing ends with its record's leaving: T_settle stops, the settled result is discarded, the window is
emptied, the weighing state returns to IDLE (R66). -/
def State.endWeighing (s : State) : State :=
  let s1 := s.emptyWindow
  { s1 with weigh := { s1.weigh with state := .idle, settled := none, tSettle := none } }

/-! ## The Dispatch Ring (R181, R182, R184) -/

/-- The dispatch record of a departing record (R181). -/
def dispatchRecord (p : PalletRecord) (o : DispatchOutcome) (now : Ms) : DispatchRecord where
  tag := p.tag
  ident := p.ident.getD 0
  load := (p.manifest.map (·.load)).getD 0
  seq := (p.manifest.map (·.seq)).getD 0
  serial := (p.manifest.map (·.serial)).getD 0
  outcome := o
  reasons := p.reasons
  wrap := p.wrap
  label := p.label
  net := p.net
  height := p.height
  lateral := p.lateral
  longitudinal := p.longitudinal
  caseDev := p.caseDev
  time := now

/-- The ring without its oldest record that is not in flight (R184). -/
def dropOldest (headInFlight : Bool) : List DispatchRecord → List DispatchRecord
  | [] => []
  | r :: rs => if headInFlight then r :: rs.drop 1 else rs

/-- A dispatch record is appended; a full ring first loses its oldest record not in flight, which is counted
(R182, R184). -/
def State.appendRecord (s : State) (r : DispatchRecord) : State :=
  if 32 ≤ s.ring.records.length then
    { s with ring := ⟨dropOldest (s.line.inFlight == some .ring) s.ring.records ++ [r], satSucc 65535 s.ring.lost⟩ }
  else { s with ring := { s.ring with records := s.ring.records ++ [r] } }

end Sys2Proof.Machine
end

