-- ==== Sys2Proof/Machine/Format.lean ====
section
/-! DEFINITION. Chapter 12: the bodies of the notices a lane sends, the Dispatch Record body, and the content strings
of the Status Replies. -/

namespace Sys2Proof.Machine

/-- The reason word with its presence bits 13 to 15: net, case deviation, height (R199, R200). -/
def reasonWord (r : ReasonSet) (net caseDev height : Option Int) : Nat :=
  r.toNat + flag net.isSome 8192 + flag caseDev.isSome 16384 + flag height.isSome 32768

/-- Net and height in one 32-bit field: the net as 22-bit signed grams, clamped, and the height as 10-bit signed
centimetres, floor(mm / 10), clamped (R197, R199). -/
def netHeightField (net height : Option Int) : Nat :=
  1024 * signedField 22 (clampInt (-2097152) 2097151 (net.getD 0))
    + signedField 10 (clampInt (-512) 511 ((height.getD 0).fdiv 10))

/-- Both offsets in one 24-bit field with their presence bits (R199). -/
def offsetsField (lat long : Option Int) : Nat :=
  8192 * signedField 11 (lat.getD 0) + 4 * signedField 11 (long.getD 0) + flag lat.isSome 2 + flag long.isSome 1

/-- The outcome bits that the Dispatch Record and the ZONE reply share: wrap, label, failed sides (R199, R200). -/
def outcomeBits (w : WrapOutcome) (l : LabelOutcome) : Nat :=
  4 * w.code + 16 * l.code + flag l.failedLeft 64 + flag l.failedRight 128

/-- The Dispatch Record body, 28 bytes (R199). -/
def recordBody (r : DispatchRecord) : List Byte :=
  beBytes 1 r.tag.toNat ++ beBytes 1 (r.outcome.code + outcomeBits r.wrap r.label)
    ++ beBytes 4 r.ident.toNat ++ beBytes 2 r.load.toNat ++ beBytes 1 r.seq.toNat ++ beBytes 5 r.serial.toNat
    ++ beBytes 2 (reasonWord r.reasons r.net r.caseDev r.height) ++ beBytes 4 r.time.toNat
    ++ beBytes 4 (netHeightField r.net r.height) ++ beBytes 3 (offsetsField r.lateral r.longitudinal)
    ++ beBytes 1 (signedField 8 (r.caseDev.getD 0))

/-- The kind number of a queued notice (R130). -/
def Notice.kind : Notice → Nat
  | .manifestRequest _ _ => 1
  | .claim _ _ _ _ => 3
  | .released _ _ => 4
  | .abandon _ _ => 5
  | .withdrawn _ _ _ => 6
  | .stalled _ _ _ => 9
  | .faultReport _ => 11
  | .statusReply _ _ => 13

/-- The body of a queued notice (R198). -/
def Notice.body : Notice → List Byte
  | .manifestRequest ident _ => beBytes 4 ident.toNat
  | .claim load seq forced ident =>
    beBytes 2 load.toNat ++ beBytes 1 seq.toNat ++ beBytes 1 (flag forced 1) ++ beBytes 4 ident.toNat
  | .released load seq => beBytes 2 load.toNat ++ beBytes 1 seq.toNat ++ beBytes 1 0
  | .abandon load seq => beBytes 2 load.toNat ++ beBytes 1 seq.toNat ++ beBytes 1 0
  | .withdrawn load seq reasons => beBytes 2 load.toNat ++ beBytes 1 seq.toNat ++ beBytes 1 0 ++ beBytes 2 reasons.toNat
  | .stalled load seq next => beBytes 2 load.toNat ++ beBytes 1 seq.toNat ++ beBytes 1 0 ++ beBytes 2 next
  | .statusReply _ body => body
  | .faultReport body => body

/-- The destination a lane writes: 15 for the Sequence and Request queues, the request's source for a Status Reply,
the configured record address for a Fault Report (R137). -/
def Notice.dst (recordAddr : BitVec 4) : Notice → Nat
  | .statusReply d _ => d.val
  | .faultReport _ => recordAddr.toNat
  | _ => 15

/-- The content bytes of a queued notice (R127, R196). -/
def noticeContent (own : Station) (recordAddr : BitVec 4) (n : Notice) : List Byte :=
  content own.val n.kind (n.dst recordAddr) n.body

/-- The content bytes of a Dispatch Record notice (kind 10, R183). -/
def recordContent (own : Station) (recordAddr : BitVec 4) (r : DispatchRecord) : List Byte :=
  content own.val 10 recordAddr.toNat (recordBody r)

/-- A Fault Report body for the entry at `position` (R179, R198). -/
def faultReportBody (e : FaultEntry) (position listed : Nat) (overflow : Bool) (lane : LaneState) : List Byte :=
  beBytes 1 e.kind.code ++ beBytes 1 (zoneNumber e.zone)
    ++ beBytes 1 (flag e.kind.immediate 128 + flag overflow 64 + lane.code)
    ++ beBytes 1 (16 * position + listed) ++ beBytes 4 e.since.toNat

/-! ## Status Reply contents (R186, R187, R200) -/

/-- The answers of R185. -/
inductive Answer where
  | ok
  | none
  | invalid
deriving DecidableEq, Repr

/-- Answer codes (R200). -/
def Answer.code : Answer → Nat
  | .ok => 0
  | .none => 1
  | .invalid => 2

/-- The LANE string, 21 bytes (R186, R200). -/
def laneString (s : State) : List Byte :=
  beBytes 1 s.mon.lane.code ++ s.seq.zones.toList.map (fun z => BitVec.ofNat 8 z.code)
    ++ beBytes 1 (flag s.track.exitSlot.isSome 1 + flag s.mon.overflow 2 + flag s.line.congested 4)
    ++ beBytes 1 s.mon.faults.length
    ++ (match s.mon.last with
        | none => beBytes 8 0
        | some r =>
          beBytes 1 r.command.code
            ++ beBytes 1 (match r.command with
              | .purge z => z.toNat
              | _ => 15)
            ++ beBytes 1 r.result.code
            ++ beBytes 1 (match r.origin with
              | some st => st.val
              | none => 128)
            ++ beBytes 4 r.time.toNat)
    ++ beBytes 1 s.ring.records.length

/-- The COUNTERS string, 14 bytes (R186, R200). -/
def countersString (s : State) : List Byte :=
  beBytes 2 s.line.lineErrors ++ beBytes 2 s.line.collisions ++ beBytes 2 s.view.skips ++ beBytes 2 s.ring.lost
    ++ beBytes 2 s.track.issued ++ beBytes 4 s.clock.toNat

/-- The FAULTS string for an entry, or the NONE string, 9 bytes (R186, R200). -/
def faultsString (s : State) : Option FaultEntry → List Byte
  | some e =>
    beBytes 1 e.kind.code ++ beBytes 1 (zoneNumber e.zone)
      ++ beBytes 1 (flag e.kind.immediate 128 + flag s.mon.overflow 64 + flag e.present 1)
      ++ beBytes 1 e.raises ++ beBytes 4 e.since.toNat ++ beBytes 1 s.mon.faults.length
  | none => beBytes 2 0 ++ beBytes 1 (flag s.mon.overflow 64) ++ beBytes 5 0 ++ beBytes 1 s.mon.faults.length

/-- The time left on a claim's T_claim timer, in milliseconds (R186). -/
def claimTimeLeft (s : State) (c : ClaimHeld) : Nat := seconds s.cfg.tClaim - elapsed s.clock c.since

/-- The VIEW string for an entry, or the NONE string, 13 bytes (R186, R200). -/
def viewString (s : State) : Option LoadEntry → List Byte
  | some e =>
    beBytes 2 e.load.toNat ++ beBytes 2 e.next ++ beBytes 1 e.total.toNat
      ++ (match e.claim with
          | some c =>
            beBytes 1 (128 + flag e.closing 64 + c.station.val) ++ beBytes 1 c.seq.toNat ++ beBytes 4 (claimTimeLeft s c)
          | none => beBytes 1 (flag e.closing 64) ++ beBytes 5 0)
      ++ beBytes 1 e.count ++ beBytes 1 s.view.entries.length
  | none => beBytes 12 0 ++ beBytes 1 s.view.entries.length

/-- The PROBE string of one way, 29 bytes (R49, R200). -/
def probeString (cs : CacheSet) (e : CacheEntry) : List Byte :=
  beBytes 1 (flag e.valid 1 + flag cs.b0 16 + flag cs.b1 32 + flag cs.b2 64)
    ++ (if e.valid then manifestBody e.manifest else beBytes 28 0)

/-- The record summary of a ZONE reply, bytes 0 to 37 (R187, R200). `zoneCode` is 0 for the exit slot. -/
def summaryString (zoneCode : Nat) : Option PalletRecord → List Byte
  | none => beBytes 1 zoneCode ++ beBytes 37 0
  | some p =>
    beBytes 1 (zoneCode + 8 + flag p.orphan 16 + flag p.ident.isSome 32 + flag p.manifest.isSome 64 + flag p.waiting 128)
      ++ beBytes 1 p.tag.toNat ++ beBytes 4 (p.ident.getD 0).toNat
      ++ (match p.manifest with
          | some m => beBytes 2 m.load.toNat ++ beBytes 1 m.seq.toNat ++ beBytes 1 m.total.toNat
          | none => beBytes 4 0)
      ++ beBytes 2 (reasonWord p.reasons p.net p.caseDev p.height)
      ++ beBytes 4 (netHeightField p.net p.height) ++ beBytes 3 (offsetsField p.lateral p.longitudinal)
      ++ beBytes 1 (signedField 8 (p.caseDev.getD 0)) ++ beBytes 4 (signedField 32 (p.gross.getD 0))
      ++ beBytes 4 (signedField 32 (clampInt (-2147483648) 2147483647 (p.deviation.getD 0)))
      ++ beBytes 1 (flag p.verdictTime.isSome 1 + flag p.gross.isSome 2 + outcomeBits p.wrap p.label)
      ++ beBytes 1 p.stage.code ++ beBytes 4 p.arrival.toNat ++ beBytes 4 (p.verdictTime.getD 0).toNat

/-- A capture as two bytes, 0 when none (R200). -/
def captureField (c : Option (BitVec 16)) : List Byte := beBytes 2 (c.getD 0).toNat

/-- A job's phase and side states, two bytes; 0 for no job (R200, R201). -/
def jobField : Option Job → List Byte
  | some j => beBytes 1 j.phase.code ++ beBytes 1 (16 * j.left.code + j.right.code)
  | none => beBytes 2 0

/-- The mark capture of a job (R114). -/
def markOf (j : Option Job) : Option (BitVec 16) := j.bind (·.mark)

/-- The added bytes of a ZONE reply (R187, R200). -/
def addedString (s : State) (z : Nat) : List Byte :=
  match z with
  | 1 => beBytes 1 s.weigh.state.code ++ beBytes 1 (flag s.weigh.tSettle.isSome 1)
  | 2 =>
    beBytes 1 (s.wrap.state.code + flag s.wrap.homed 16 + flag s.wrap.capture.isSome 32 + flag (markOf s.label.tableJob).isSome 64)
      ++ beBytes 2 s.wrap.mast.toNat ++ beBytes 2 s.wrap.angle.toNat ++ beBytes 1 s.wrap.rev
      ++ beBytes 2 s.wrap.mastCmp.active.toNat ++ beBytes 2 s.wrap.angleCmp.active.toNat
      ++ captureField s.wrap.capture ++ jobField s.label.tableJob ++ captureField (markOf s.label.tableJob)
      ++ beBytes 2 s.label.cmp.active.toNat
  | 3 => jobField s.label.labelJob
  | 8 => beBytes 1 (flag s.rel.stall.isSome 1 + flag s.rel.force 2 + flag s.rel.followUp 4)
  | _ => []

/-- The ZONE string of zone 0..8 (R187, R200). -/
def zoneString (s : State) (z : Fin 9) : List Byte := summaryString (s.zone z).code (s.pallet z) ++ addedString s z.val

/-- The ZONE string of the exit slot (R187, R200). -/
def exitSlotString (s : State) : List Byte := summaryString 0 s.track.exitSlot

/-- Bytes brought to a fixed length: cut there, or filled with 0 (R200). -/
def padTo (n : Nat) (l : List Byte) : List Byte := l.take n ++ List.replicate (n - l.length) 0

/-- Part `k` of `count` parts of a Status Reply (R185, R200). -/
def replyPart (subject index : Byte) (a : Answer) (count k : Nat) (string : List Byte) : List Byte :=
  [subject, index] ++ beBytes 1 (a.code + 16 * k + 64 * count) ++ padTo 25 (string.drop (25 * (k - 1)))

/-- All parts of a Status Reply, in order (R185). -/
def replyParts (subject index : Byte) (a : Answer) (count : Nat) (string : List Byte) : List (List Byte) :=
  match count with
  | 1 => [replyPart subject index a 1 1 string]
  | 2 => [replyPart subject index a 2 1 string, replyPart subject index a 2 2 string]
  | _ => [replyPart subject index a 3 1 string, replyPart subject index a 3 2 string, replyPart subject index a 3 3 string]

end Sys2Proof.Machine
end

