-- ==== Sys2Proof/Machine/Flags.lean ====
section
/-! DEFINITION. The conditions that several blocks read: the four deferred blocks (R176), the TABLE roller interlock
(R112), the Label Controller's consent (R116), the motions in progress (R168), the drive outputs (R2), and the
overtaking condition (R161). -/

namespace Sys2Proof.Machine

/-- A start that a deferred fault can block is blocked: RUN_ON is deasserted, and the overflow marker is set or an
entry of a blocking kind is listed (R175, R176). -/
def State.blockedBy (s : State) (kinds : List FaultKind) : Bool :=
  !s.inp.runOn && (s.mon.overflow || kinds.any s.listed)

/-- Weighing start is blocked (R63). -/
def State.weighBlocked (s : State) : Bool := s.blockedBy [.cellLost, .bedNotZero]

/-- Wrap start is blocked (R95). -/
def State.wrapBlocked (s : State) : Bool := s.blockedBy [.filmLow, .forceLost, .forceHigh, .turntableSlip]

/-- Label composition is blocked (R116). -/
def State.labelBlocked (s : State) : Bool := s.blockedBy [.labelLow]

/-- Claim queuing is blocked (R155). -/
def State.claimBlocked (s : State) : Bool := s.blockedBy [.addressClash]

/-- The wrap states in which a wrap is in progress: START to CUT (R95). -/
def WrapState.inProgress : WrapState → Bool
  | .start | .bottom | .rise | .top | .descend | .park | .cut => true
  | _ => false

/-- The wrap states in which the TURNTABLE output may be on: START to PARK (R112). -/
def WrapState.turning : WrapState → Bool
  | .start | .bottom | .rise | .top | .descend | .park => true
  | _ => false

/-- The TABLE roller interlock allows the rollers to run (R112). -/
def State.rollersAllowed (s : State) : Bool :=
  match s.wrap.state with
  | .idle | .done | .aborted => true
  | _ => false

/-- The job serves the record (R114). -/
def jobServes (j : Option Job) (p : PalletRecord) : Bool :=
  match j with
  | some j => j.tag == p.tag
  | none => false

/-- The job is in a phase that gives consent (R116). -/
def JobPhase.consents : JobPhase → Bool
  | .consented | .armed | .fired => true
  | _ => false

/-- The job's applicators have not fired yet (R119). -/
def JobPhase.beforeFiring (p : JobPhase) : Bool := p != .fired

/-- The TABLE record has the Label Controller's consent (R116). -/
def State.consents (s : State) : Bool :=
  match s.pallet zTable with
  | none => false
  | some p =>
    p.label != .none
      || (match s.label.tableJob with
          | some j => j.tag == p.tag && j.phase.consents
          | none => false)

/-- A motion is running. -/
def Motion.isRunning : Motion → Bool
  | .running _ => true
  | _ => false

/-- A motion is abandoned or stopped. -/
def Motion.isAbandoned : Motion → Bool
  | .abandoned _ => true
  | _ => false

/-- The job's firing is a motion in progress that the motion count holds (R168). -/
def countedFiring (j : Option Job) : Nat :=
  match j with
  | some j => flag (j.phase == .fired && j.counted) 1
  | none => 0

/-- The motions begun and not yet ended (R168): running transfers, the reject transfer, the exit, a wrap or homing,
and counted firings. -/
def State.motionsInProgress (s : State) : Nat :=
  s.seq.transfers.toList.countP Motion.isRunning + flag s.seq.reject.isRunning 1 + flag s.seq.exit.isRunning 1
    + flag (s.wrap.state.inProgress || s.wrap.state == .homing) 1
    + countedFiring s.label.tableJob + countedFiring s.label.labelJob

/-- Transfer number `z`, if there is one, runs. -/
def transferRuns (t : Vector Motion 8) (z : Nat) : Bool := (t[z]?.map Motion.isRunning).getD false

/-- A zone's drive is on while a transfer into or out of it runs, while the reject transfer runs (DIVERT), and while
the exit runs (FRONT) (R2). -/
def driveOn (q : ZoneSequencer) (z : Nat) : Bool :=
  transferRuns q.transfers z || (z != 0 && transferRuns q.transfers (z - 1))
    || (z == 4 && q.reject.isRunning) || (z == 8 && q.exit.isRunning)

/-- The drive outputs of the nine zones (R2). -/
def drives (q : ZoneSequencer) : Vector Bool 9 :=
  #v[driveOn q 0, driveOn q 1, driveOn q 2, driveOn q 3, driveOn q 4, driveOn q 5, driveOn q 6, driveOn q 7, driveOn q 8]

/-- No record of the lane is in a release stage (R154). -/
def State.noStage (s : State) : Bool :=
  s.track.exitSlot.isNone
    && (match s.pallet zFront with
        | some p => p.stage == .waiting
        | none => true)

/-- The other records of the track carry the ident (R31): any record in a zone other than `z`, or the exit slot. -/
def State.identElsewhere (s : State) (z : Fin 9) (ident : BitVec 32) : Bool :=
  (match s.track.exitSlot with
    | some p => p.ident == some ident
    | none => false)
  || allZones.any (fun y => y != z &&
      (match s.pallet y with
        | some p => p.ident == some ident
        | none => false))

/-- The wait of DEFER in slots: d = 1 + ((own - last - 1) mod 15) (R131). -/
def accessSlots (own last : Station) : Nat := 1 + (own.val + 29 - last.val) % 15

/-- The wait of BACKOFF in slots: d = 16 + own (R133). -/
def backoffSlots (own : Station) : Nat := 16 + own.val

end Sys2Proof.Machine
end

