-- ==== Sys2Proof/Machine/Verdict.lean ====
section
/-! DEFINITION. Chapter 4: the check verdict. Every stage is exact integer arithmetic; floor is Int.fdiv, trunc is
Int.tdiv (00_scope 6.4). The stages write into a pallet record and hold no state of their own. -/

namespace Sys2Proof.Machine

/-- The base tare of a manifest's base type (R68). -/
def tareOf (c : Image) (m : Manifest) : Int := c.tare[m.base.toNat]'m.base.isLt

/-- The tolerance entry of a manifest's tolerance class (R68). -/
def toleranceOf (c : Image) (m : Manifest) : Tolerance := c.tolerance[m.tolClass.toNat]'m.tolClass.isLt

/-- Stage 2: the expected net weight E = n × u (R72). -/
def expectedNet (m : Manifest) : Int := (m.cases.toNat : Int) * (m.unitMass.toNat : Int)

/-- Stage 3: the tolerance τ = F + floor(E × P / 1000) (R73). -/
def toleranceBand (c : Image) (m : Manifest) : Int :=
  (toleranceOf c m).fixed + (expectedNet m * (toleranceOf c m).perMille).fdiv 1000

/-- Stage 4: the weight reasons on the net N and the deviation D (R74). -/
def weightReasons (net dev band : Int) : ReasonSet :=
  (if dev < -band ∨ net < 0 then Reason.under.word else 0) ||| (if band < dev then Reason.over.word else 0)

/-- Stage 5: the case deviation, D / u rounded to the nearest case, halves away from zero, clamped to -128..127
(R75). -/
def caseDeviation (dev unit : Int) : Int :=
  let h := unit.fdiv 2
  clampInt (-128) 127 (if 0 ≤ dev then (dev + h).tdiv unit else (dev - h).tdiv unit)

/-- Stage 6: the lateral offset in per-mille of M (R77). -/
def lateralOffset (m : Corners) : Int :=
  clampInt (-1000) 1000 ((1000 * ((m.c1 + m.c2) - (m.c0 + m.c3))).tdiv m.total)

/-- Stage 6: the longitudinal offset in per-mille of M (R77). -/
def longitudinalOffset (m : Corners) : Int :=
  clampInt (-1000) 1000 ((1000 * ((m.c0 + m.c1) - (m.c2 + m.c3))).tdiv m.total)

/-- Stage 6: the balance verdict is given when the balance total M is at least min_gross (R76). -/
def balanceJudged (c : Image) (m : Corners) : Bool := decide ((c.minGross : Int) ≤ m.total)

/-- Stage 6: OFF_CENTRE when either stored offset exceeds its limit (R78). -/
def offCentre (c : Image) (m : Corners) : Bool :=
  balanceJudged c m && (decide (c.latLimit < (lateralOffset m).natAbs) || decide (c.longLimit < (longitudinalOffset m).natAbs))

/-- Stages 1 to 6 on a record with manifest copy `m`: measurements, reasons, verdict time (R69 to R78). -/
def weightVerdict (c : Image) (st : Settlement) (zb : Int) (now : Ms) (m : Manifest) (p : PalletRecord) : PalletRecord :=
  let gross := st.gross - zb
  let net := gross - tareOf c m
  let dev := net - expectedNet m
  { p with
    gross := some gross
    net := some net
    deviation := some dev
    caseDev := some (caseDeviation dev m.unitMass.toNat)
    lateral := if balanceJudged c st.means then some (lateralOffset st.means) else none
    longitudinal := if balanceJudged c st.means then some (longitudinalOffset st.means) else none
    verdictTime := some now
    reasons := p.reasons ||| weightReasons net dev (toleranceBand c m)
      ||| (if offCentre c st.means then Reason.offCentre.word else 0) }

/-- Stage 7: the height of a final capture (R80). -/
def heightOf (c : Image) (capture : BitVec 16) : Int :=
  ((capture.toNat * c.mu / 1000 : Nat) : Int) - (c.deckOffset : Int)

/-- Stage 7: the height reasons against the manifest's band (R81). -/
def heightReasons (m : Manifest) (h : Int) : ReasonSet :=
  (if h < 10 * (m.bandMin.toNat : Int) then Reason.low.word else 0)
    ||| (if 10 * (m.bandMax.toNat : Int) < h then Reason.high.word else 0)

/-- Stage 7 on a record: the height and its reasons, or TOP_NOT_FOUND when no capture stands (R79 to R82). A record
without a manifest copy, which no wrap is started for (R95), is judged on no band. -/
def heightVerdict (c : Image) (capture : Option (BitVec 16)) (p : PalletRecord) : PalletRecord :=
  match capture with
  | none => p.addReason .topNotFound
  | some k =>
    let h := heightOf c k
    { p with
      height := some h
      reasons := match p.manifest with
        | some m => p.reasons ||| heightReasons m h
        | none => p.reasons }

/-- Stage 8: the label net figure, tenths of a kilogram (R83). -/
def labelFigure (net : Int) : Int := (net + 50).fdiv 100

/-- The label record composed from a record and its manifest copy (R117). A label is composed only for a record
that holds a net and a height (R116); an absent one would count as 0. -/
def labelRecord (m : Manifest) (p : PalletRecord) : LabelRecord where
  serial := m.serial
  load := m.load
  seq := m.seq
  total := m.total
  drop := m.drop
  sku := m.sku
  lot := m.lot
  bestBefore := m.bestBefore
  netFigure := labelFigure (p.net.getD 0)
  heightCm := (p.height.getD 0).fdiv 10

end Sys2Proof.Machine
end

