-- ==== Sys2Proof/Machine/WrapOps.lean ====
section
/-! DEFINITION. The wrap program's states and their ends (R96 to R104), the compares that drive it (R90), and its
abort (R109). A state that ends in its own entry event leads straight on, as the rules say. -/

namespace Sys2Proof.Machine

/-- Both carriage outputs off (R91). -/
def WrapController.stopCarriage (w : WrapController) : WrapController := { w with carriageUp := false, carriageDown := false }

/-- CARRIAGE_UP on, and CARRIAGE_DOWN off in the same event (R91). -/
def WrapController.driveUp (w : WrapController) : WrapController := { w with carriageUp := true, carriageDown := false }

/-- CARRIAGE_DOWN on, and CARRIAGE_UP off in the same event (R91). -/
def WrapController.driveDown (w : WrapController) : WrapController := { w with carriageUp := false, carriageDown := true }

/-- A compare armed with a target: the pending target moves into the active target at once (R90). -/
def Compare.armAt (target : BitVec 16) : Compare := ⟨true, target, target⟩

/-- A compare disarmed; its targets keep their last values (R90). -/
def Compare.disarm (c : Compare) : Compare := { c with armed := false }

/-- An armed compare matches when the counter equals its active target (R90). -/
def Compare.hits (c : Compare) (counter : BitVec 16) : Bool := c.armed && counter == c.active

/-- The class of the wrap in progress (R113). -/
def State.wrapClass (s : State) : WrapClass := s.cfg.classes[s.wrap.cls.val]

/-- CUT is entered: TURNTABLE off and its stall timer stopped, the angle compare disarmed (R102), the clamp closed,
CUTTER on for the cut time (R103). -/
def State.enterCut (s : State) : State :=
  { s with wrap := { s.wrap with
      state := .cut, turntable := false, stall := none, angleCmp := s.wrap.angleCmp.disarm
      filmClamp := false, cutter := true, cutSince := some s.clock } }

/-- PARK is entered: the carriage is stopped, the run counts are 0 (R105), the angle compare is armed with the park
angle, which may match at once (R102). -/
def State.enterPark (s : State) : State :=
  let s1 := { s with wrap := { s.wrap.stopCarriage with
      state := .park, mastCmp := s.wrap.mastCmp.disarm, angleCmp := Compare.armAt s.cfg.parkAngle
      lowRun := 0, highRun := 0, parkIndexes := 0 } }
  if s1.wrap.angleCmp.hits s1.wrap.angle then s1.enterCut else s1

/-- DESCEND is entered, or PARK at once when the mast stands at or below the bottom target (R101). -/
def State.enterDescend (s : State) : State :=
  if s.wrap.mast.toNat ≤ s.cfg.bottomTarget.toNat then s.enterPark
  else { s with wrap := { s.wrap.driveDown with state := .descend, mastCmp := Compare.armAt s.cfg.bottomTarget } }

/-- TOP ends: DESCEND for a cross wrap, else PARK with the carriage left at the top (R100). -/
def State.endTop (s : State) : State := if s.wrapClass.cross then s.enterDescend else s.enterPark

/-- TOP is judged: it ends once the revolution counter is at or above the top count (R100). -/
def State.judgeTop (s : State) : State := if s.wrapClass.topCount ≤ s.wrap.rev then s.endTop else s

/-- The rise ends: the carriage stops, the compare disarms, stage 7 of the verdict takes the capture standing, the
revolution counter is cleared and TOP is entered (R98, R79). -/
def State.endRise (s : State) : State :=
  let s1 := s.updPallet zTable (heightVerdict s.cfg s.wrap.capture)
  { s1 with wrap := { s1.wrap.stopCarriage with state := .top, mastCmp := s1.wrap.mastCmp.disarm, rev := 0 } }.judgeTop

/-- RISE is entered: CARRIAGE_UP on, no capture stands, the mast compare armed with mast_max, which may match at once
(R97, R98). -/
def State.enterRise (s : State) : State :=
  let s1 := { s with wrap := { s.wrap.driveUp with state := .rise, capture := none, mastCmp := Compare.armAt s.cfg.mastMax } }
  if s1.wrap.mastCmp.hits s1.wrap.mast then s1.endRise else s1

/-- BOTTOM is judged: it ends once the revolution counter is at or above the bottom count (R97). -/
def State.judgeBottom (s : State) : State := if s.wrapClass.bottomCount ≤ s.wrap.rev then s.enterRise else s

/-- BOTTOM is entered with the carriage stopped (R96, R97). -/
def State.enterBottom (s : State) : State :=
  { s with wrap := { s.wrap.stopCarriage with state := .bottom, mastCmp := s.wrap.mastCmp.disarm } }.judgeBottom

/-- START is entered: the angle and revolution counters cleared, FILM_CLAMP set, TURNTABLE on with its stall timer,
the run counts 0; then the carriage is brought to the bottom (R96). `cls` is the manifest copy's class (R113). An expiry
noted for an earlier wrap is no stall of this one (R88; log 30). -/
def State.enterStart (s : State) (cls : Fin 4) : State :=
  let s1 := { s with wrap := { s.wrap with
      state := .start, cls := cls, angle := 0, rev := 0, first := true, filmClamp := true, turntable := true
      stall := some s.clock, stallDue := none, lowRun := 0, highRun := 0 } }
  if s1.wrap.mast.toNat ≤ s1.cfg.bottomTarget.toNat then s1.enterBottom
  else { s1 with wrap := { s1.wrap.driveDown with mastCmp := Compare.armAt s1.cfg.bottomTarget } }

/-- The mast compare is judged; a match is acted on by the state that armed it (R90). -/
def State.judgeMast (s : State) : State :=
  if s.wrap.mastCmp.hits s.wrap.mast then
    match s.wrap.state with
    | .start => s.enterBottom
    | .rise => s.endRise
    | .descend => s.enterPark
    | _ => s
  else s

/-- The angle compare is judged; a match in PARK enters CUT (R90, R102). -/
def State.judgeAngle (s : State) : State :=
  if s.wrap.angleCmp.hits s.wrap.angle then
    match s.wrap.state with
    | .park => s.enterCut
    | _ => s
  else s

/-- overlap_counts of the wrap in progress: floor(overlap_mm × 1000 / μ) (R99). -/
def State.overlapCounts (s : State) : Nat := s.wrapClass.overlapMm * 1000 / s.cfg.mu

/-- The rise target after a clear edge at mast count `c`: c + overlap_counts, at most mast_max (R99). -/
def State.riseTarget (s : State) (c : BitVec 16) : BitVec 16 :=
  BitVec.ofNat 16 (min s.cfg.mastMax.toNat (c.toNat + s.overlapCounts))

/-- Every wrap output off and both compares disarmed, the cut time and stall timer stopped. -/
def WrapController.outputsOff (w : WrapController) : WrapController :=
  { w.stopCarriage with
    turntable := false, stall := none, filmClamp := false, cutter := false, cutSince := none
    mastCmp := w.mastCmp.disarm, angleCmp := w.angleCmp.disarm }

/-- The period of the stall timer, 2.0 s (R88). -/
def stallPeriod : Nat := 2000

/-- The wrap in progress is aborted (R109), and a stall timer that had reached its 2.0 s is noted (log 30); homing ends
with the carriage off and the flag clear (R93); in any other wrap state nothing changes. -/
def State.stopWrap (s : State) : State :=
  if s.wrap.state.inProgress then
    let s1 := { s with wrap := { s.wrap.outputsOff with 
        state := .aborted, capture := none, lowRun := 0, highRun := 0
        stallDue := notedAt s.clock stallPeriod s.wrap.stall } }
    s1.updPallet zTable (fun p => { p with wrap := .aborted }.addReason .wrapFailed)
  else if s.wrap.state = .homing then { s with wrap := { s.wrap.stopCarriage with state := .idle } }
  else s

/-- Homing finds MAST_HOME: CARRIAGE_DOWN off, mast counter 0, homed flag set, wrap state IDLE (R93). -/
def State.homeFound (s : State) : State :=
  { s with wrap := { s.wrap.stopCarriage with state := .idle, mast := 0, homed := true } }

/-- Homing is entered at the lane's entry into RUNNING with the homed flag clear (R92). -/
def State.enterHoming (s : State) : State :=
  if s.wrap.homed = false ∧ s.rollersAllowed = true then
    let s1 := { s with wrap := { s.wrap.driveDown with state := .homing, mast := 65535 } }
    if s1.inp.mastHome then s1.homeFound else s1
  else s

end Sys2Proof.Machine
end

