-- ==== Sys2Proof/Machine/LabelOps.lean ====
section
/-! DEFINITION. The Label Controller's shared operations: composition (R117), the end of a job by failure (R118),
by a reason (R119), by removal (R125), firing (R121) and resolution (R122), and what a transfer into LABEL and the
lane's entry into FAULT do to a job (R123). -/

namespace Sys2Proof.Machine

/-- DISCARD is sent on both links (R115). -/
def State.sendDiscard (s : State) : State := { s with label := { s.label with txL := some .discard, txR := some .discard } }

/-- The conveyor compare is disarmed (R119, R123). -/
def State.disarmConveyor (s : State) : State := { s with label := { s.label with cmp := s.label.cmp.disarm } }

/-- The applicator outputs go off, and the pulse with them (R123, R125). -/
def State.endPulse (s : State) : State := { s with label := { s.label with applyL := false, applyR := false, pulse := none } }

/-- The TABLE record's job. -/
def State.setTableJob (s : State) (j : Option Job) : State := { s with label := { s.label with tableJob := j } }

/-- The job of a record that has left TABLE. -/
def State.setLabelJob (s : State) (j : Option Job) : State := { s with label := { s.label with labelJob := j } }

/-- A record's label outcome is written. -/
def PalletRecord.setLabel (p : PalletRecord) (o : LabelOutcome) : PalletRecord := { p with label := o }

/-- A fresh job of a record, before composition (R116). DESIGN CHOICE (log 32): R114 gives the sides of a BLOCKED job no
state, for no print has been sent; they are held as PENDING, and the ZONE reply of TABLE shows them so (R187, R200). -/
def Job.made (tag : BitVec 8) : Job := ⟨tag, .blocked, .pending, .pending, none, none, none, false⟩

/-- The job is composed: the label record goes out as a PRINT on both links, both sides are PENDING, the phase is
PRINTING, T_print starts (R117). -/
def State.compose (s : State) (j : Job) (m : Manifest) (p : PalletRecord) : State :=
  { s with label := { s.label with
      txL := some (.print (labelRecord m p)), txR := some (.print (labelRecord m p))
      tableJob := some { j with phase := .printing, left := .pending, right := .pending, tPrint := some s.clock } } }

/-- The TABLE record's job fails: T_print stops with the job, DISCARD goes out on both links, the outcome is FAILED
with the sides named, LABEL_FAILED is added, the job is freed (R118). -/
def State.failJob (s : State) (left right : Bool) : State :=
  (s.sendDiscard.setTableJob none).updPallet zTable (fun p => (p.setLabel (.failed left right)).addReason .labelFailed)

/-- The TABLE record's job is given up for a reason gained before firing: the compare is disarmed, DISCARD goes out
where a PRINT had been sent, the outcome becomes NOT_NEEDED, the job is freed (R119). -/
def State.giveUpJob (s : State) (j : Job) : State :=
  let s1 := if j.phase = .blocked then s else s.sendDiscard
  (s1.disarmConveyor.setTableJob none).updPallet zTable (·.setLabel .notNeeded)

/-- The applicators fire: both outputs on for the 100 ms pulse, both sides FIRED, T_apply starts, the phase is FIRED;
a motion begins (R121, R168). -/
def State.fire (s : State) (j : Job) : State :=
  { s with label := { s.label with
      applyL := true, applyR := true, pulse := some s.clock
      tableJob := some { j with phase := .fired, left := .fired, right := .fired, tApply := some s.clock, counted := true } } }

/-- The conveyor compare is judged; a match disarms it and fires, or gives the job up when the record has reasons
(R120, R121). -/
def State.judgeConveyor (s : State) : State :=
  if s.label.cmp.hits s.wrap.conveyor then
    let s1 := s.disarmConveyor
    match s.label.tableJob, s.pallet zTable with
    | some j, some p => if j.phase = .armed then (if p.passes then s1.fire j else s1.giveUpJob j) else s1
    | _, _ => s1
  else s

/-- A side of a job. -/
def Job.side (j : Job) : Side → SideState
  | .left => j.left
  | .right => j.right

/-- A side of a job takes a state. -/
def Job.setSide (j : Job) (d : Side) (v : SideState) : Job :=
  match d with
  | .left => { j with left := v }
  | .right => { j with right := v }

/-- The job is FIRED. -/
def Job.isFired (j : Job) : Bool := j.phase == .fired

/-- Neither side of the job is FIRED any more (R122). -/
def Job.settledSides (j : Job) : Bool := j.left != .fired && j.right != .fired

/-- The label outcome of a resolved job: APPLIED, or FAILED with the sides that were missed (R122). -/
def Job.outcome (j : Job) : LabelOutcome :=
  if j.left = .seen ∧ j.right = .seen then .applied else .failed (j.left == .missed) (j.right == .missed)

/-- A resolved job's outcome is written into a record, with LABEL_FAILED for a failure (R122). -/
def PalletRecord.resolveLabel (p : PalletRecord) (j : Job) : PalletRecord :=
  match j.outcome with
  | .applied => p.setLabel .applied
  | o => (p.setLabel o).addReason .labelFailed

/-- The zone that holds the record of a track tag (R5). -/
def State.zoneOfTag (s : State) (tag : BitVec 8) : Option (Fin 9) :=
  allZones.find? (fun z =>
    match s.pallet z with
    | some p => p.tag == tag
    | none => false)

/-- The record of a track tag, if it stands in a zone, is changed by `f`. -/
def State.updTagged (s : State) (tag : BitVec 8) (f : PalletRecord → PalletRecord) : State :=
  match s.zoneOfTag tag with
  | some z => s.updPallet z f
  | none => s

/-- A FIRED job with new side states: kept while a side is still FIRED, else resolved and freed (R122). `put` says
which of the two jobs it is. -/
def State.judgeFired (s : State) (put : State → Option Job → State) (j : Job) : State :=
  if j.settledSides then (put s none).updTagged j.tag (·.resolveLabel j) else put s (some j)

/-- The change `f` of the side states is made on the FIRED job, if there is one, and the job is judged (R122). -/
def State.onFired (s : State) (f : Job → Job) : State :=
  match s.label.labelJob with
  | some j => if j.isFired then s.judgeFired State.setLabelJob (f j) else s
  | none =>
    match s.label.tableJob with
    | some j => if j.isFired then s.judgeFired State.setTableJob (f j) else s
    | none => s

/-- A job is dropped with its record's removal: timers and compare with it, the pulse ended, DISCARD sent where a
label may stand on a pad, no outcome written (R125). -/
def State.dropJobs (s : State) (tag : BitVec 8) : State :=
  let s1 := match s.label.tableJob with
    | some j =>
      if j.tag = tag then
        match j.phase with
        | .blocked => s.setTableJob none
        | .fired => s.endPulse.setTableJob none
        | _ => s.sendDiscard.disarmConveyor.setTableJob none
      else s
    | none => s
  match s1.label.labelJob with
  | some j => if j.tag = tag then s1.endPulse.setLabelJob none else s1
  | none => s1

/-- The lane's entry into FAULT: an ARMED job is disarmed and returns to CONSENTED; a FIRED job's pulse is cut and its
firing is no longer counted (R123, R168). -/
def faultJob (j : Job) : Job :=
  match j.phase with
  | .armed => { j with phase := .consented, mark := none }
  | .fired => { j with counted := false }
  | _ => j

/-- The Label Controller at the lane's entry into FAULT (R123, R175). -/
def State.faultLabels (s : State) : State :=
  let s1 := s.endPulse.disarmConveyor
  { s1 with label := { s1.label with tableJob := s.label.tableJob.map faultJob, labelJob := s.label.labelJob.map faultJob } }

/-- A transfer into LABEL completes: a FIRED job goes with its record; a CONSENTED or ARMED job fails on both sides,
with DISCARD on both links (R123). Called after the record has moved. -/
def State.labelArrival (s : State) : State :=
  match s.label.tableJob, s.pallet zLabel with
  | some j, some p =>
    if j.tag = p.tag then
      match j.phase with
      | .fired => (s.setLabelJob (some j)).setTableJob none
      | .consented | .armed =>
        (s.disarmConveyor.sendDiscard.setTableJob none).updPallet zLabel
          (fun p => (p.setLabel (.failed true true)).addReason .labelFailed)
      | _ => s
    else s
  | _, _ => s

end Sys2Proof.Machine
end

