-- ==== Sys2Proof/Machine/ReleaseOps.lean ====
section
/-! DEFINITION. The Release Unit's shared operations: the removal of a queued Claim (R157, R138), the withdrawal of a
won one (R160), and what leaving RUNNING does to a release (R164, R166). -/

namespace Sys2Proof.Machine

/-- The FRONT record takes a release stage. -/
def State.setStage (s : State) (st : Stage) : State := s.updPallet zFront (fun p => { p with stage := st })

/-- The notice is a Claim. -/
def Notice.isClaim : Notice → Bool
  | .claim _ _ _ _ => true
  | _ => false

/-- The head of the Sequence queue is a Claim in flight (R137). -/
def State.claimInFlight (s : State) : Bool :=
  s.line.inFlight == some .sequence
    && (match s.tx.sequence with
        | n :: _ => n.isClaim
        | [] => false)

/-- The lane's queued Claim is removed: one not in flight leaves the queue and its reservation is released; one in
flight is marked for removal and keeps its reservation (R138, R157). -/
def State.dropClaim (s : State) : State :=
  if s.claimInFlight then { s with line := { s.line with marked := true } }
  else { s with tx := { s.tx with sequence := s.tx.sequence.filter (fun n => !n.isClaim) } }.releaseFollowUp

/-- The stage of the FRONT record. -/
def State.frontStage (s : State) : Option Stage := (s.pallet zFront).map (·.stage)

/-- A FRONT record in CLAIM_QUEUED returns to WAITING and its Claim is removed (R157). -/
def State.unqueueClaim (s : State) : State :=
  if s.frontStage = some .claimQueued then (s.setStage .waiting).dropClaim else s

/-- The Abandon for a record's load and sequence (R149). -/
def abandonOf (p : PalletRecord) : Notice :=
  .abandon ((p.manifest.map (·.load)).getD 0) ((p.manifest.map (·.seq)).getD 0)

/-- A FRONT record in CLAIM_WON returns to WAITING, and its Abandon joins in the follow-up reservation (R160). -/
def State.abandonWon (s : State) : State :=
  match s.pallet zFront with
  | some p => if p.stage = .claimWon then (s.setStage .waiting).joinFollowUp (abandonOf p) else s
  | none => s

/-- The force mark is cleared (R164). -/
def State.clearForce (s : State) : State := { s with rel := { s.rel with force := false } }

/-- What leaving RUNNING, or entering FAULT, does to a release: the queued Claim removed, the won claim withdrawn, the
force mark cleared (R157, R160, R164, R166). -/
def State.leaveRelease (s : State) : State := s.unqueueClaim.abandonWon.clearForce

end Sys2Proof.Machine
end

