-- ==== Sys2Proof/Machine/FaultOps.lean ====
section
/-! DEFINITION. Raising a fault (R174), its class effect, and the lane's entry into FAULT with all it stops (R175,
R166), in one place for every block. -/

namespace Sys2Proof.Machine

/-- A running motion is abandoned (R14); its timer stops with it, and one that had counted its period is noted
(log 30). -/
def Motion.abandon (now : Ms) (period : Nat) : Motion → Motion
  | .running since => .abandoned (notedAt now period (some since))
  | m => m

/-- Every transfer, the reject transfer and the exit are abandoned or stopped (R14, R21). -/
def State.abandonMotions (s : State) : State :=
  { s with seq := { s.seq with
      transfers := s.seq.transfers.map (Motion.abandon s.clock (tenths s.cfg.tTransfer))
      reject := s.seq.reject.abandon s.clock (tenths s.cfg.tTransfer)
      exit := s.seq.exit.abandon s.clock (tenths s.cfg.tExit) } }

/-- The lane enters FAULT from STOPPED, RUNNING or STOPPING, and every motion stops (R166, R175). In FAULT, CONFIG and
UNCONFIGURED nothing changes. -/
def State.enterFault (s : State) : State :=
  match s.mon.lane with
  | .stopped | .running | .stopping => (s.setLane .fault).abandonMotions.stopWrap.faultLabels.leaveRelease
  | _ => s

/-- A Fault Report joins the Report queue if it has a place (R139, R179). -/
def State.joinReport (s : State) (n : Notice) : State :=
  if s.tx.report.length < 8 then { s with tx := { s.tx with report := s.tx.report ++ [n] } } else s

/-- The class effect of a kind (R174): an immediate fault takes the lane to FAULT. A deferred fault blocks its start
by being listed (R176). -/
def State.classEffect (s : State) (k : FaultKind) : State := if k.immediate then s.enterFault else s

/-- The entry has this kind and zone (R173). -/
def FaultEntry.isFor (k : FaultKind) (z : Option (Fin 11)) (e : FaultEntry) : Bool := e.kind == k && e.zone == z

/-- A repeated raise: the count saturates at 255, the cause present flag is set (R174). -/
def FaultEntry.again (e : FaultEntry) : FaultEntry := { e with raises := satSucc 255 e.raises, present := true }

/-- The Fault Report of a new entry at the end of the list is made and joins the Report queue (R179). -/
def State.reportNew (s : State) (e : FaultEntry) : State :=
  s.joinReport (.faultReport (faultReportBody e (s.mon.faults.length - 1) s.mon.faults.length s.mon.overflow s.mon.lane))

/-- A fault is raised (R174): an entry of the kind and zone counts it again; else a list with room takes a new entry,
with its Fault Report composed after the class effect; else the overflow marker is set. The class effect follows in
each case. -/
def State.raise (s : State) (k : FaultKind) (z : Option (Fin 11)) : State :=
  if s.mon.faults.any (FaultEntry.isFor k z) then
    { s with mon := { s.mon with
        faults := s.mon.faults.map (fun (e : FaultEntry) => if e.isFor k z then e.again else e) } }.classEffect k
  else if s.mon.faults.length < 8 then
    let e : FaultEntry := ⟨k, z, 1, s.clock, true⟩
    ({ s with mon := { s.mon with faults := s.mon.faults ++ [e] } }.classEffect k).reportNew e
  else { s with mon := { s.mon with overflow := true } }.classEffect k

/-- Raises that come in one instant, taken in either order (R174; log 8). -/
def State.raiseAll (s : State) (l : List (FaultKind × Option (Fin 11))) : State :=
  (eitherOrder s.free l).foldl (fun s f => s.raise f.1 f.2)
    { s with free := if l.length ≤ 1 then s.free else s.free + l.length }

end Sys2Proof.Machine
end

