-- ==== Sys2Proof/Machine/LineOps.lean ====
section
/-! DEFINITION. The Dock Line Interface and the Transmit Arbiter: what is ready (R131, R137), the choice of the next
notice (R140), the start of a notice, the end of a train (R135), line activity and the wait (R131, R133), and the
taking of a received notice (R128 to R130). -/

namespace Sys2Proof.Machine

/-- The source holds a notice. -/
def State.filled (s : State) : Source → Bool
  | .sequence => !s.tx.sequence.isEmpty
  | .request => !s.tx.request.isEmpty
  | .report => !s.tx.report.isEmpty
  | .ring => !s.ring.records.isEmpty

/-- A source has a notice ready when it holds one at its head that is not in flight (R131). -/
def State.ready (s : State) (src : Source) : Bool := s.filled src && s.line.inFlight != some src

/-- Some source has a notice ready. -/
def State.anyReady (s : State) : Bool := s.ready .sequence || s.ready .request || s.ready .report || s.ready .ring

/-- All four sources in cyclic order, from one of them on (R140). -/
def cycleFour : Source → List Source
  | .sequence => [.sequence, .request, .report, .ring]
  | .request => [.request, .report, .ring, .sequence]
  | .report => [.report, .ring, .sequence, .request]
  | .ring => [.ring, .sequence, .request, .report]

/-- Request, Report and Ring in cyclic order, from one of them on (R140 mode 1). -/
def cycleThree : Source → List Source
  | .report => [.report, .ring, .request]
  | .ring => [.ring, .request, .report]
  | _ => [.request, .report, .ring]

/-- The order of search of an arbitration mode (R140). -/
def searchOrder (mode : Nat) (pointer : Source) : List Source :=
  match mode with
  | 0 => [.sequence, .request, .report, .ring]
  | 1 => .sequence :: cycleThree pointer
  | _ => cycleFour pointer

/-- The source whose head is chosen next (R140). -/
def State.choose (s : State) : Option Source := (searchOrder s.cfg.arbMode s.tx.pointer).find? s.ready

/-- The round-robin pointer after a source is served (R140). -/
def servedPointer (mode : Nat) (pointer : Source) (served : Source) : Source :=
  match mode with
  | 0 => pointer
  | 1 =>
    match served with
    | .sequence => pointer
    | .request => .report
    | .report => .ring
    | .ring => .request
  | _ =>
    match served with
    | .sequence => .request
    | .request => .report
    | .report => .ring
    | .ring => .sequence

/-- The content bytes of the head of a source (R127, R137). -/
def State.headContent (s : State) : Source → Option (List Byte)
  | .sequence => s.tx.sequence.head?.map (noticeContent s.own s.cfg.recordAddr)
  | .request => s.tx.request.head?.map (noticeContent s.own s.cfg.recordAddr)
  | .report => s.tx.report.head?.map (noticeContent s.own s.cfg.recordAddr)
  | .ring => s.ring.records.head?.map (recordContent s.own s.cfg.recordAddr)

/-- The head of a source is started: it is in flight, the station drives its content, the line state is SEND
(R131, R137). -/
def State.startNotice (s : State) (src : Source) : State :=
  { s with line := { s.line with
      state := .send, inFlight := some src, marked := false, driving := s.headContent src, waitSlots := 0 } }

/-- The head of a source is removed and its place freed (R136). -/
def State.removeHead (s : State) : Source → State
  | .sequence => { s with tx := { s.tx with sequence := s.tx.sequence.drop 1 } }
  | .request => { s with tx := { s.tx with request := s.tx.request.drop 1 } }
  | .report => { s with tx := { s.tx with report := s.tx.report.drop 1 } }
  | .ring => { s with ring := { s.ring with records := s.ring.records.drop 1 } }

/-- The d of the wait that a line state counts (R131, R133); no wait is counted in the others. DESIGN CHOICE (log 34): R133
lets the backoff d apply until the station next starts a notice, and R131 gives DEFER a d of its own; after a backoff that
ended in IDLE with no notice started, the next DEFER counts the access wait's d. -/
def State.waitOf (s : State) : LineState → Nat
  | .defer => accessSlots s.own s.line.lastSender
  | .backoff => backoffSlots s.own
  | _ => 0

/-- The wait begins again, with d computed afresh (R131, R133). -/
def State.restartWait (s : State) : State := { s with line := { s.line with waitSlots := s.waitOf s.line.state } }

/-- The line state becomes DEFER if a notice is ready, and IDLE otherwise (R131, R135). -/
def State.deferOrIdle (s : State) : State :=
  let l : LineState := if s.anyReady then .defer else .idle
  { s with line := { s.line with state := l, waitSlots := s.waitOf l } }

/-- A train ends without an abort (R135). -/
def State.endTrain (s : State) : State := { s with line := { s.line with trainPos := 0 } }.deferOrIdle

/-- Line activity of another station begins: a train in its gap ends; a wait is set aside (R131, R133, R135). -/
def State.activityBegins (s : State) : State :=
  let s1 := if s.line.state = .gap then s.endTrain else s
  { s1 with line := { s1.line with activity := true } }

/-- Line activity ends: the wait begins again (R131, R133). -/
def State.activityEnds (s : State) : State := { s with line := { s.line with activity := false } }.restartWait

/-- The reception of a notice from `src` taken whole: its activity has passed, and the last sender is set before any
block acts (R129; log 15). -/
def State.heard (s : State) (src : Station) : State :=
  let s1 := s.activityBegins
  { s1 with line := { s1.line with lastSender := src } }.activityEnds

/-- The reception of a notice that is not taken whole: its activity has passed and the line error count increments;
no other state changes (R128). -/
def State.heardDiscarded (s : State) : State := s.activityBegins.activityEnds.countLineError

/-- The notice is addressed to this station or to all (R130). -/
def State.addressed (s : State) (dst : BitVec 4) : Bool := dst == 15#4 || dst.toNat == s.own.val

/-- A notice taken whole from `src`: it sets the last sender; one with this station's own number that the station did
not send raises ADDRESS_CLASH and is discarded (R129); else the block it is offered to acts by `f`, if its destination
is allowed (R130). While the station sends, its own number is its own readback (log 14). -/
def State.takeNotice (s : State) (src : Station) (allowed : Bool) (f : State → State) : State :=
  if src = s.own then
    if s.line.state = .send then s else (s.heard src).raise .addressClash none
  else if allowed then f (s.heard src)
  else s.heard src

end Sys2Proof.Machine
end

