-- ==== Sys2Proof/Machine/ViewOps.lean ====
section
/-! DEFINITION. The notices that move the Load View (R147 to R152), and what they do to the lane's own release: an
overtaken record (R161), a claim yielded and a double claim (R162), a queued Claim removed (R157). -/

namespace Sys2Proof.Machine

/-- A view skip is counted, saturating (R153). -/
def State.countSkip (s : State) (skipped : Bool) : State :=
  if skipped then { s with view := { s.view with skips := satSucc 65535 s.view.skips } } else s

/-- A Claim(L, k) from a station acts on the entry of L when k is at least next (R147). -/
def State.applyClaim (s : State) (src : Station) (load : BitVec 16) (k : BitVec 8) : State :=
  match s.loadEntry load with
  | none => s
  | some e =>
    if k.toNat < e.next then s
    else (s.putTouched { e with next := k.toNat, claim := some ⟨src, k, s.clock⟩ }).countSkip (decide (e.next < k.toNat))

/-- The claim names sequence `k`. -/
def claimsSeq (c : Option ClaimHeld) (k : BitVec 8) : Bool :=
  match c with
  | some c => c.seq == k
  | none => false

/-- The claim equals (s, k) (R149). -/
def claimIs (c : Option ClaimHeld) (src : Station) (k : BitVec 8) : Bool :=
  match c with
  | some c => c.station == src && c.seq == k
  | none => false

/-- A Released(L, k) raises next to at least k + 1 and clears a claim for k (R148). -/
def State.applyReleased (s : State) (load : BitVec 16) (k : BitVec 8) : State :=
  match s.loadEntry load with
  | none => s
  | some e =>
    if e.next ≤ k.toNat ∨ claimsSeq e.claim k = true then
      (s.putTouched { e with
          next := raisedNext e.next (k.toNat + 1)
          claim := if claimsSeq e.claim k then none else e.claim }).countSkip (decide (e.next < k.toNat))
    else s

/-- An Abandon(L, k) from a station clears the claim when it equals (s, k) (R149). -/
def State.applyAbandon (s : State) (src : Station) (load : BitVec 16) (k : BitVec 8) : State :=
  match s.loadEntry load with
  | none => s
  | some e => if claimIs e.claim src k then s.putTouched { e with claim := none } else s

/-- A Skip(L, n) raises next to the larger of next and n (R150). -/
def State.applySkip (s : State) (load : BitVec 16) (n : Nat) : State :=
  match s.loadEntry load with
  | none => s
  | some e => if e.next < n then s.putTouched { e with next := raisedNext e.next n } else s

/-- A stored manifest's load and issue-next: the entry is created, or its next raised and its total replaced (R37,
R143, R144). A change of total alone does not touch the entry (R142). -/
def State.applyManifest (s : State) (m : Manifest) : State :=
  match s.loadEntry m.load with
  | none => s.createLoad m
  | some e =>
    let e1 := { e with next := raisedNext e.next m.issueNext.toNat, total := m.total }
    if e.next < e1.next then s.putTouched e1 else s.putInPlace e1

/-- A Load Close removes an entry with count 0, and else sets its closing flag (R151). -/
def State.applyClose (s : State) (load : BitVec 16) : State :=
  match s.loadEntry load with
  | none => s
  | some e => if e.count = 0 then s.removeLoad load else s.putInPlace { e with closing := true }

/-- T_claim expires: the claim is cleared and the entry touched; next stays (R152). -/
def State.expireClaim (s : State) (load : BitVec 16) : State :=
  match s.loadEntry load with
  | none => s
  | some e => if e.claim.isSome then s.putTouched { e with claim := none } else s

/-- The next of a load's entry. -/
def State.nextOf (s : State) (load : BitVec 16) : Option Nat := (s.loadEntry load).map (·.next)

/-- The stages in which a FRONT record can be overtaken (R161). -/
def Stage.overtakable : Stage → Bool
  | .waiting | .claimQueued | .claimWon => true
  | _ => false

/-- A record is identified with load `load`, holds a sequence, and stands in an overtakable stage: its sequence. -/
def PalletRecord.seqIn (p : PalletRecord) (load : BitVec 16) : Option Nat :=
  match p.manifest with
  | some m => if m.load = load ∧ p.stage.overtakable = true then some m.seq.toNat else none
  | none => none

/-- The FRONT record is overtaken: DUPLICATE is added; a queued Claim is removed; a won claim is abandoned, except
when the overtaking event is a Released for the record's own sequence, which has cleared every claim for it (R161). -/
def State.markOvertaken (s : State) (byRelease : Bool) : State :=
  let s1 := (s.addReason zFront .duplicate).unqueueClaim
  if s.frontStage = some .claimWon then
    if byRelease then (s1.setStage .waiting).releaseFollowUp else s1.abandonWon
  else s1

/-- The fault of an overtaken or yielding FRONT record (R161, R162). -/
def duplicateFault : FaultKind × Option (Fin 11) := (.duplicateAtFront, some 8)

/-- A rise of the next of `load` from the value it has in `before`: a FRONT record whose sequence the rise passes is
overtaken, and DUPLICATE_AT_FRONT is raised (R161). `released` is the sequence of a Released notice. -/
def State.judgeRise (s before : State) (load : BitVec 16) (released : Option (BitVec 8)) : State :=
  match s.pallet zFront, before.nextOf load, s.nextOf load with
  | some p, some old, some new =>
    match p.seqIn load with
    | some k =>
      if old ≤ k ∧ k < new then
        (s.markOvertaken (released.map (·.toNat) == some k)).raise duplicateFault.1 duplicateFault.2
      else s
    | none => s
  | _, _, _ => s

/-- The FRONT record's sequence when it is identified to `load`, with its stage. -/
def State.frontIn (s : State) (load : BitVec 16) (k : BitVec 8) : Option Stage :=
  match s.pallet zFront with
  | some p =>
    match p.manifest with
    | some m => if m.load = load ∧ m.seq = k then some p.stage else none
    | none => none
  | none => none

/-- A Claim from another station for the FRONT record's own (L, k): a queued Claim is removed (R157); a won claim is
yielded with DUPLICATE and DUPLICATE_AT_FRONT, its reservation released; an exiting record gives DOUBLE_CLAIM (R162). -/
def State.meetForeignClaim (s : State) (load : BitVec 16) (k : BitVec 8) : State :=
  match s.frontIn load k with
  | some .claimQueued => s.unqueueClaim
  | some .claimWon =>
    (((s.addReason zFront .duplicate).setStage .waiting).releaseFollowUp).raise duplicateFault.1 duplicateFault.2
  | some .exiting => s.raise .doubleClaim (some 8)
  | _ => s

/-- A Released from another station for the sequence of an EXITING record gives DOUBLE_CLAIM (R162). -/
def State.meetForeignReleased (s : State) (load : BitVec 16) (k : BitVec 8) : State :=
  match s.frontIn load k with
  | some .exiting => s.raise .doubleClaim (some 8)
  | _ => s

/-- The content check of Claim, Released and Abandon: a load of 0 or a sequence of 0 discards the notice as a line
error (R146). -/
def State.checked (s : State) (ok : Bool) (f : State → State) : State := if ok then f s else s.countLineError

end Sys2Proof.Machine
end

