-- ==== Sys2Proof/Machine/TrackOps.lean ====
section
/-! DEFINITION. Records on the move: the start and completion of a transfer (R11, R12), the examination of an
abandoned one (R15), the reject transfer (R17, R18), the exit (R19, R20), and removal from the track (R7). -/

namespace Sys2Proof.Machine

/-- The source zone of transfer `z`. -/
abbrev srcZone (z : Fin 8) : Fin 9 := z.castSucc

/-- The target zone of transfer `z`: z + 1. -/
abbrev dstZone (z : Fin 8) : Fin 9 := z.succ

/-- A fault with its zone. -/
abbrev Raise := FaultKind × Option (Fin 11)

/-! ## Transfers -/

/-- The condition that R11's table adds for the source zone `z`. -/
def State.addedCondition (s : State) (z : Fin 8) : Bool :=
  match z.val with
  | 1 => s.rollersAllowed
  | 2 => s.rollersAllowed && s.consents
  | 4 =>
    match s.pallet zDivert with
    | some p => p.passes
    | none => false
  | _ => true

/-- The conditions of R11 for a transfer from `z` to `z + 1`. -/
def State.canTransfer (s : State) (z : Fin 8) : Bool :=
  s.zone (srcZone z) == .ready && s.zone (dstZone z) == .empty && !s.eye (dstZone z) && s.running && s.addedCondition z

/-- Transfers into and out of BED empty the settle window; the one out of BED ends the weighing (R60, R66). -/
def State.bedMoves (s : State) (z : Fin 8) : State :=
  match z.val with
  | 0 => s.emptyWindow
  | 1 => s.endWeighing
  | _ => s

/-- A transfer starts: the zones become DEPARTING and ARRIVING and T_transfer starts (R11). -/
def State.startTransfer (s : State) (z : Fin 8) : State :=
  (((s.setZone (srcZone z) .departing).setZone (dstZone z) .arriving).setTransfer z (.running s.clock)).bedMoves z

/-- The zone state that an arriving record's zone takes: READY for a zone whose work is done at arrival (R10). -/
def arrivalState (z : Fin 9) : ZoneState := if 4 ≤ z.val then .ready else .occupied

/-- The record of `z` moves to `z + 1` and the zone states follow (R12). -/
def State.moveRecord (s : State) (z : Fin 8) : State :=
  let p := s.pallet (srcZone z)
  let s1 := (s.setPallet (srcZone z) none).setPallet (dstZone z) (p.map (fun p => { p with zone := (dstZone z).castSucc }))
  ((s1.setZone (srcZone z) .empty).setZone (dstZone z) (arrivalState (dstZone z))).setTransfer z .idle

/-- The FRONT record's sequence is below its entry's next (R161). -/
def State.arrivedOvertaken (s : State) : Bool :=
  match s.pallet zFront with
  | some p =>
    match p.manifest with
    | some m =>
      match s.nextOf m.load with
      | some next => p.stage.overtakable && decide (m.seq.toNat < next)
      | none => false
    | none => false
  | none => false

/-- A weighing begins for a record that has come into BED by a transfer: the weighing state leaves IDLE, and the
weighing starts in the same event unless it is blocked (R62; log 10). -/
def State.beginWeighing (s : State) : State := { s with weigh := { s.weigh with state := .blocked } }

/-- What the blocks do at an arrival in the target zone: BED's weighing (R62), LABEL's job (R123), FRONT's overtaking
(R161). The faults to raise come with it. -/
def State.arrive (s : State) (z : Fin 9) : State × List Raise :=
  match z.val with
  | 1 => (s.beginWeighing, [])
  | 3 => (s.labelArrival, [])
  | 8 => if s.arrivedOvertaken then (s.addReason zFront .duplicate, [duplicateFault]) else (s, [])
  | _ => (s, [])

/-- OVERLENGTH(z) when z's own eye is still blocked (R12, R18). -/
def State.overlength (s : State) (z : Fin 9) : List Raise :=
  if s.eye z then [(.overlength, some (z.castLE (by decide)))] else []

/-- A transfer completes (R12): the record moves, the arriving zone's block acts, and the faults to raise are named. -/
def State.completeTransfer (s : State) (z : Fin 8) : State × List Raise :=
  let (s1, r) := (s.moveRecord z).arrive (dstZone z)
  (s1, s.overlength (srcZone z) ++ r)

/-- An abandoned transfer is dropped: the record stays READY in the source zone, the target zone is EMPTY (R15). -/
def State.dropTransfer (s : State) (z : Fin 8) : State :=
  let s1 := ((s.setZone (srcZone z) .ready).setZone (dstZone z) .empty).setTransfer z .idle
  if z.val ≤ 1 then s1.emptyWindow else s1

/-- An abandoned transfer is examined at an entry into RUNNING: completed when the target eye is blocked, else dropped
(R15). -/
def State.examineTransfer (s : State) (z : Fin 8) : State × List Raise :=
  if (s.transfer z).isAbandoned then
    if s.eye (dstZone z) then s.completeTransfer z else (s.dropTransfer z, [])
  else (s, [])

/-! ## Removal from the track (R7) -/

/-- The outstanding read of a record ends with the record's leaving (R29). -/
def State.endRead (s : State) (tag : BitVec 8) : State :=
  if s.read.awaiting = some tag then { s with read := ⟨none, none⟩ } else s

/-- The Load View counts an identified record's leaving (R7, R145). -/
def State.countOut (s : State) (p : PalletRecord) : State :=
  match p.manifest with
  | some m => s.countLeft m.load
  | none => s

/-- Work and reservations tied to the zone a record leaves: the weighing at BED, the reject reservation at DIVERT, the
cause of DUPLICATE_AT_FRONT at FRONT (R7, R66, R177). -/
def State.leaveZone (s : State) (z : Fin 9) : State :=
  match z.val with
  | 1 => s.endWeighing
  | 4 => { s with tx := { s.tx with rejectReserved := false } }
  | 8 => s.causeGone .duplicateAtFront
  | _ => s

/-- The record of zone `z` leaves the track with every effect of R7; the dispatch record is appended apart. -/
def State.removeRecord (s : State) (z : Fin 9) : State :=
  match s.pallet z with
  | none => s
  | some p =>
    (((((((s.countOut p).freeEntry p.tag).endRead p.tag).dropJobs p.tag).setPallet z none).setZone z .empty).leaveZone z)

/-- The exit-slot record leaves the track (R7, R28, R159). -/
def State.removeExited (s : State) (o : DispatchOutcome) : State :=
  match s.track.exitSlot with
  | none => s
  | some p =>
    let s1 := ((s.countOut p).freeEntry p.tag).dropJobs p.tag
    { s1 with track := { s1.track with exitSlot := none } }.appendRecord (dispatchRecord p o s.clock)

/-! ## The reject transfer and the exit -/

/-- The Withdrawn notice of an identified record (R18). -/
def withdrawnOf (m : Manifest) (p : PalletRecord) : Notice := .withdrawn m.load m.seq p.reasons

/-- The reject transfer completes (R18): the record leaves the track, its Withdrawn fills the reserved place, a
REJECTED dispatch record is appended; OVERLENGTH(4) if DIVERT's eye is still blocked. -/
def State.completeReject (s : State) : State × List Raise :=
  match s.pallet zDivert with
  | none => ({ s with seq := { s.seq with reject := .idle } }.setZone zDivert .empty, s.overlength zDivert)
  | some p =>
    let s1 := match p.manifest with
      | some m => s.joinWithdrawn (withdrawnOf m p)
      | none => s
    (({ s1 with seq := { s1.seq with reject := .idle } }.removeRecord zDivert).appendRecord (dispatchRecord p .rejected s.clock),
      s.overlength zDivert)

/-- An abandoned reject transfer is examined at an entry into RUNNING against REJECT_EYE (R15, R18). -/
def State.examineReject (s : State) : State × List Raise :=
  if s.seq.reject.isAbandoned then
    if s.inp.rejectEye then s.completeReject
    else ({ s with seq := { s.seq with reject := .idle } }.setZone zDivert .ready, [])
  else (s, [])

/-- The Released notice of an identified record (R159). -/
def releasedOf (p : PalletRecord) : Notice :=
  .released ((p.manifest.map (·.load)).getD 0) ((p.manifest.map (·.seq)).getD 0)

/-- The exit completes: the record enters the exit slot as EXITED, FRONT is EMPTY, Released joins in the follow-up
reservation (R20, R159). -/
def State.completeExit (s : State) : State :=
  match s.pallet zFront with
  | none => { s with seq := { s.seq with exit := .idle } }.setZone zFront .empty
  | some p =>
    let s1 := ({ s with seq := { s.seq with exit := .idle } }.setPallet zFront none).setZone zFront .empty
    { s1 with track := { s1.track with exitSlot := some { p with zone := 9, stage := .exited } } }.joinFollowUp (releasedOf p)

/-- The exit starts: EXITING, FRONT DEPARTING, T_exit starts (R19). -/
def State.startExit (s : State) : State :=
  ({ s with seq := { s.seq with exit := .running s.clock } }.setZone zFront .departing).setStage .exiting

/-- A stopped exit resumes at an entry into RUNNING, with T_exit from its full value (R21). -/
def State.resumeExit (s : State) : State :=
  if s.seq.exit.isAbandoned then { s with seq := { s.seq with exit := .running s.clock } } else s

/-- The reject transfer starts: an identified record reserves its place, DIVERT is DEPARTING, T_transfer starts
(R17). -/
def State.startReject (s : State) (identified : Bool) : State :=
  let s1 := if identified then { s with tx := { s.tx with rejectReserved := true } } else s
  { s1 with seq := { s1.seq with reject := .running s.clock } }.setZone zDivert .departing

end Sys2Proof.Machine
end

