-- ==== Sys2Proof/Machine/Settle.lean ====
section
/-! DEFINITION. The starts that the rules make "at the first event in which all of the following hold" (R11, R17,
R62, R94, R95, R104, R116, R119, R155, R158, R163) and the zones' work (R10), each as a condition `canX` with its
effect `doX`, and one pass over them all, which ends every event (log 5). -/

namespace Sys2Proof.Machine

/-! ## Work and starts in the zones -/

/-- The wrap state returns to IDLE once TABLE is EMPTY (R104). -/
def State.canWrapIdle (s : State) : Bool :=
  (s.wrap.state == .done || s.wrap.state == .aborted) && s.zone zTable == .empty

/-- R104's return to IDLE. -/
def State.doWrapIdle (s : State) : State := { s with wrap := { s.wrap with state := .idle } }

/-- BED's work is done: its weighing is SETTLED or EXPIRED and identification is resolved (R10, R32). -/
def State.canBedWork (s : State) : Bool :=
  s.zone zBed == .occupied && (s.weigh.state == .settled || s.weigh.state == .expired)
    && (match s.pallet zBed with
        | some p => p.resolved
        | none => false)

/-- The verdict of stages 1 to 6 on the BED record: computed when the record holds a manifest copy and a settled
result is held (R69). -/
def State.bedVerdict (s : State) (p : PalletRecord) : PalletRecord :=
  match p.manifest, s.weigh.settled with
  | some m, some st => if s.weigh.state = .settled then weightVerdict s.cfg st s.weigh.zb s.clock m p else p
  | _, _ => p

/-- BED's work ends: the verdict is written, then BED becomes READY (R69, R70). -/
def State.doBedWork (s : State) : State := (s.updPallet zBed s.bedVerdict).setZone zBed .ready

/-- A BLOCKED weighing may start (R62, R63). -/
def State.canWeigh (s : State) : Bool := s.weigh.state == .blocked && s.zone zBed == .occupied && !s.weighBlocked

/-- The weighing starts: the window is emptied, T_settle starts, SETTLING (R62). -/
def State.doWeigh (s : State) : State :=
  let s1 := s.emptyWindow
  { s1 with weigh := { s1.weigh with state := .settling, settled := none, tSettle := some s.clock } }

/-- The TABLE record waits for its wrap: TABLE OCCUPIED, wrap outcome NONE, wrap state IDLE (R94, R95). -/
def State.wrapWaits (s : State) (p : PalletRecord) : Bool :=
  s.zone zTable == .occupied && p.wrap == .none && s.wrap.state == .idle

/-- The wrap is skipped: the waiting TABLE record has a reason (R94). -/
def State.canSkip (s : State) : Bool :=
  match s.pallet zTable with
  | some p => s.wrapWaits p && !p.passes
  | none => false

/-- R94's effect: wrap outcome SKIPPED, TABLE READY. -/
def State.doSkip (s : State) : State := (s.updPallet zTable (fun p => { p with wrap := .skipped })).setZone zTable .ready

/-- A wrap may start for the TABLE record (R95). -/
def State.canWrap (s : State) : Bool :=
  match s.pallet zTable with
  | some p => s.wrapWaits p && p.passes && p.manifest.isSome && s.wrap.homed && s.running && !s.wrapBlocked
  | none => false

/-- The class that the TABLE record's manifest copy selects (R113). -/
def State.tableClass (s : State) : Fin 4 :=
  match (s.pallet zTable).bind (·.manifest) with
  | some m => m.wrapClass.toFin
  | none => 0

/-- The wrap starts (R95, R96). -/
def State.doWrap (s : State) : State := s.enterStart s.tableClass

/-- The TABLE job is given up: its record has a reason and the applicators have not fired (R119). -/
def State.canGiveUp (s : State) : Bool :=
  match s.label.tableJob, s.pallet zTable with
  | some j, some p => j.tag == p.tag && j.phase.beforeFiring && !p.passes
  | _, _ => false

/-- R119's effect. -/
def State.doGiveUp (s : State) : State :=
  match s.label.tableJob with
  | some j => s.giveUpJob j
  | none => s

/-- The Label Controller decides on the TABLE record: TABLE READY, label outcome NONE, no job serves it (R116). -/
def State.canDecide (s : State) : Bool :=
  s.zone zTable == .ready
    && (match s.pallet zTable with
        | some p => p.label == .none && !jobServes s.label.tableJob p
        | none => false)

/-- R116's decision: NOT_NEEDED for a record with reasons, else a job, which is composed unless it is blocked. -/
def State.doDecide (s : State) : State :=
  match s.pallet zTable with
  | some p =>
    if p.passes then s.setTableJob (some (Job.made p.tag)) else s.updPallet zTable (·.setLabel .notNeeded)
  | none => s

/-- A BLOCKED job may be composed (R116, R117). -/
def State.canCompose (s : State) : Bool :=
  match s.label.tableJob, s.pallet zTable with
  | some j, some p =>
    j.tag == p.tag && j.phase == .blocked && s.zone zTable == .ready && p.passes && p.manifest.isSome && !s.labelBlocked
  | _, _ => false

/-- The job is composed (R117). -/
def State.doCompose (s : State) : State :=
  match s.label.tableJob, s.pallet zTable with
  | some j, some p =>
    match p.manifest with
    | some m => s.compose j m p
    | none => s
  | _, _ => s

/-- LABEL's work is done: the label outcome of its record is decided (R10, R122). -/
def State.canLabelWork (s : State) : Bool :=
  s.zone zLabel == .occupied
    && (match s.pallet zLabel with
        | some p => p.label != .none
        | none => false)

/-- LABEL becomes READY (R10). -/
def State.doLabelWork (s : State) : State := s.setZone zLabel .ready

/-! ## Motions out of DIVERT and FRONT, and the Sequence queue -/

/-- The conditions of R17 but for the Sequence queue place. -/
def State.rejectWaits (s : State) : Bool :=
  s.zone zDivert == .ready && s.running && !s.inp.rejectFull && !s.inp.rejectEye
    && (match s.pallet zDivert with
        | some p => !p.passes
        | none => false)

/-- The DIVERT record is identified (R4). -/
def State.divertIdentified (s : State) : Bool := ((s.pallet zDivert).bind (·.manifest)).isSome

/-- The reject transfer may start (R17). -/
def State.canReject (s : State) : Bool :=
  s.rejectWaits && (!s.divertIdentified || s.tx.rejectReserved || decide (0 < s.seqFree))

/-- The reject transfer starts (R17). -/
def State.doReject (s : State) : State := s.startReject s.divertIdentified

/-- The entry holds a claim for the sequence from another station (R155). -/
def State.foreignClaim (s : State) (e : LoadEntry) (k : BitVec 8) : Bool :=
  match e.claim with
  | some c => c.seq == k && c.station != s.own
  | none => false

/-- The conditions of R155 but for the two free places. -/
def State.claimWaits (s : State) : Bool :=
  s.zone zFront == .ready && s.inp.mergeClear && s.running && s.noStage && !s.rel.followUp && !s.claimBlocked
    && (match s.pallet zFront with
        | some p =>
          p.passes
            && (match p.manifest with
                | some m =>
                  match s.loadEntry m.load with
                  | some e => (e.next == m.seq.toNat || s.rel.force) && !s.foreignClaim e m.seq
                  | none => false
                | none => false)
        | none => false)

/-- A Claim may be queued (R155). -/
def State.canClaim (s : State) : Bool := s.claimWaits && decide (2 ≤ s.seqFree)

/-- The Claim of the FRONT record (R155, R198). -/
def claimOf (p : PalletRecord) (forced : Bool) : Notice :=
  .claim ((p.manifest.map (·.load)).getD 0) ((p.manifest.map (·.seq)).getD 0) forced (p.ident.getD 0)

/-- The Claim joins the Sequence queue with a follow-up reservation; the stage becomes CLAIM_QUEUED, the force mark is
cleared, the stall timer stops (R155). -/
def State.doClaim (s : State) : State :=
  match s.pallet zFront with
  | some p =>
    let s1 := (s.joinSequence (claimOf p s.rel.force)).setStage .claimQueued
    { s1 with rel := ⟨true, false, none⟩ }
  | none => s

/-- The exit may start: CLAIM_WON, RUNNING, MERGE_CLEAR (R158). -/
def State.canExit (s : State) : Bool :=
  s.running && s.inp.mergeClear && s.zone zFront == .ready
    && (match s.pallet zFront with
        | some p => p.stage == .claimWon
        | none => false)

/-- The force mark is cleared when the FRONT record has left FRONT or gained a reason (R164). -/
def State.canClearForce (s : State) : Bool :=
  s.rel.force
    && (match s.pallet zFront with
        | some p => !p.passes
        | none => true)

/-- The condition under which the stall timer runs (R163). -/
def State.stalls (s : State) : Bool :=
  s.zone zFront == .ready
    && (match s.pallet zFront with
        | some p =>
          p.stage == .waiting && p.passes
            && (match p.manifest with
                | some m =>
                  match s.nextOf m.load with
                  | some next => decide (next < m.seq.toNat)
                  | none => false
                | none => false)
        | none => false)

/-- The stall timer starts or stops with its condition (R163). -/
def State.judgeStall (s : State) : State :=
  if s.stalls then
    if s.rel.stall.isSome then s else { s with rel := { s.rel with stall := some s.clock } }
  else { s with rel := { s.rel with stall := none } }

/-- The notice itself (R163, R198). -/
def stalledOf (n : StalledNote) : Notice := .stalled n.load n.seq n.next

/-- The Stalled notice of the FRONT record, with its entry's next (R163). -/
def State.stalledNotice (s : State) : Option StalledNote :=
  match s.pallet zFront with
  | some p =>
    match p.manifest with
    | some m => (s.nextOf m.load).map (fun next => ⟨m.load, m.seq, next, s.clock⟩)
    | none => none
  | none => none

/-- A Stalled notice formed now joins if a place is free; else it is kept for this instant, in which an event may yet free
one (R163, R137; log 33). -/
def State.placeStalled (s : State) (n : StalledNote) : State :=
  if 0 < s.seqFree then s.joinSequence (stalledOf n) else { s with tx := { s.tx with unplaced := some n } }

/-- The stall timer has run for T_wait: Stalled joins if a place is free, and the timer starts again (R163). -/
def State.stallExpired (s : State) : State :=
  let s1 := match s.stalledNotice with
    | some n => s.placeStalled n
    | none => s
  { s1 with rel := { s1.rel with stall := some s.clock } }

/-! ## The line -/

/-- One waiting Manifest Request joins the Request queue if it has a place (R40). -/
def State.joinRequest (s : State) (e : TrackEntry) : State :=
  if e.joined = false ∧ s.tx.request.length < 2 then
    { s with
      tx := { s.tx with request := s.tx.request ++ [.manifestRequest e.ident e.tag] }
      tracker := s.tracker.map (fun x => if x.tag = e.tag then { x with joined := true } else x) }
  else s

/-- Waiting Manifest Requests join, in the order their entries were taken (R40, R41). -/
def State.joinRequests (s : State) : State := s.tracker.foldl State.joinRequest s

/-- In IDLE, a notice that is ready moves the line to DEFER (R131). -/
def State.judgeLine (s : State) : State :=
  if s.line.state = .idle ∧ s.anyReady = true then s.deferOrIdle else s

/-! ## The pass -/

/-- `f` when the condition holds. -/
def State.when (s : State) (c : Bool) (f : State → State) : State := if c then f s else s

/-- A transfer starts if R11 allows it. -/
def State.tryTransfer (s : State) (z : Fin 8) : State := s.when (s.canTransfer z) (·.startTransfer z)

/-- Every transfer that R11 allows starts. -/
def State.tryTransfers (s : State) : State :=
  ([0, 1, 2, 3, 4, 5, 6, 7] : List (Fin 8)).foldl State.tryTransfer s

/-- The reject transfer starts if R17 allows it. -/
def State.tryReject (s : State) : State := s.when s.canReject State.doReject

/-- A Claim is queued if R155 allows it. -/
def State.tryClaim (s : State) : State := s.when s.canClaim State.doClaim

/-- The reject transfer and the Claim want places of the Sequence queue in one event and there are too few for both:
they are then taken in either order (R137). -/
def State.contended (s : State) : Bool :=
  s.canReject && s.canClaim && s.divertIdentified && !s.tx.rejectReserved && decide (s.seqFree < 3)

/-- The joins of the starts that wait for places of the Sequence queue, one after another (R137; log 8). -/
def State.tryJoins (s : State) : State :=
  if s.contended then
    let s1 := { s with free := s.free + 1 }
    if Config.freeOrder s.free % 2 = 0 then s1.tryReject.tryClaim else s1.tryClaim.tryReject
  else s.tryReject.tryClaim

/-- The work of BED, TABLE and LABEL, and their starts. -/
def State.settleZones (s : State) : State :=
  let s := s.when s.canWrapIdle State.doWrapIdle
  let s := s.when s.canBedWork State.doBedWork
  let s := s.when s.canWeigh State.doWeigh
  let s := s.when s.canSkip State.doSkip
  let s := s.when s.canWrap State.doWrap
  let s := s.when s.canGiveUp State.doGiveUp
  let s := s.when s.canDecide State.doDecide
  let s := s.when s.canCompose State.doCompose
  s.when s.canLabelWork State.doLabelWork

/-- Every start that the rules make in the event that makes its conditions true (log 5). -/
def State.settle (s : State) : State :=
  let s := s.settleZones.tryTransfers
  let s := s.when s.canClearForce State.clearForce
  let s := s.tryJoins
  let s := s.when s.canExit State.startExit
  s.judgeStall.joinRequests.judgeLine

/-- The pins and the count that follow the motions: the drive outputs (R2), EXIT and REJECT (R2), the motion count
(R168; log 22). -/
def State.refresh (s : State) : State :=
  { s with
    out := { s.out with zoneDrive := drives s.seq, exitOut := s.seq.exit.isRunning, rejectOut := s.seq.reject.isRunning }
    mon := { s.mon with motions := s.motionsInProgress } }

/-- STOPPING with no motion left ends in STOPPED (R168). -/
def State.endStopping (s : State) : State :=
  if s.mon.lane = .stopping ∧ s.mon.motions = 0 then s.setLane .stopped else s

/-- The end of every event of a working lane. -/
def State.finish (s : State) : State := s.settle.refresh.endStopping

/-! ## A Stalled notice of the instant that frees places (R137, R163; log 33) -/

/-- The Stalled notice formed in this instant that found no place free. -/
def State.unplacedNow (s : State) : Option StalledNote := s.tx.unplaced.filter (fun n => n.formed == s.clock)

/-- The stall timer runs and reaches T_wait in this instant: its expiry is still to be taken (R163). -/
def State.stallsNow (s : State) : Bool := s.stalls && dueAt s.clock (seconds s.cfg.tWait) s.rel.stall

/-- A reject transfer or a Claim waits that takes places of the Sequence queue (R17, R155). -/
def State.placeWanted (s : State) : Bool :=
  (s.rejectWaits && s.divertIdentified && !s.tx.rejectReserved) || s.claimWaits

/-- The Stalled notice of this instant joins if a place is left for it; an expiry of the stall timer is taken with it, and
its row is then not to take it again. -/
def State.joinStalled (s : State) : State :=
  match s.unplacedNow with
  | some n => if 0 < s.seqFree then { s with tx := { s.tx with unplaced := none } }.joinSequence (stalledOf n) else s
  | none =>
    if s.stallsNow then
      let s1 := s.stallExpired
      { s1 with tx := { s1.tx with ahead := some s.clock } }
    else s

/-- The state `s` after an event's own effect on `before`. Where the event has freed places of the Sequence queue, and a
start and a Stalled notice of this instant could both use them, the joins are taken in any order (R137): the Stalled
notice first, between the two starts, or after them; or it was judged before the event and is not made, or its row is yet
to come (log 8, log 33). -/
def State.joinFreed (before s : State) : State :=
  if before.seqFree < s.seqFree ∧ s.placeWanted = true ∧ (s.unplacedNow.isSome || s.stallsNow) = true then
    let s1 := { s with free := s.free + 1 }
    match Config.freeOrder s.free % 5 with
    | 0 => s1.joinStalled
    | 1 => s1.tryReject.joinStalled
    | 2 => s1.tryClaim.joinStalled
    | 3 => s1.tryJoins.joinStalled
    | _ => s1
  else s

/-- An event of the working lane: its own effect, then every start it makes possible. In CONFIG and UNCONFIGURED none
of the lane's work takes place (R8). -/
def State.event (s : State) (f : State → State) : State := if s.working then (s.joinFreed (f s)).finish else s

end Sys2Proof.Machine
end

