-- ==== Sys2Proof/Machine/Zones.lean ====
section
/-! DEFINITION. Chapter 1's commands: eye edges, transfers, the reject transfer and the exit. An edge acts by the
state it meets (log 7): the completion of a running transfer (R12), of the reject transfer (R18) or of the exit (R20),
an arrival at IN (R9), or nothing (R3). -/

namespace Sys2Proof.Machine

/-- An event of the Outcome that every command answers. -/
abbrev Answered := Host.Outcome State Fault Refusal

/-- The tag link is asked for a read of the IN record: the noted track tag, T_read, and the request sent (R29). -/
def State.requestRead (s : State) : State :=
  match s.pallet zIn with
  | some p => { s with read := ⟨some p.tag, some s.clock⟩, out := { s.out with tagTx := some p.tag } }
  | none => s

/-- An arrival at IN: a new record, IN OCCUPIED, a tag read requested (R9, R29). -/
def State.arriveAtIn (s : State) : State := ((s.createRecord zIn false).setZone zIn .occupied).requestRead

/-- A completion with the faults it raises. -/
def State.withRaises (r : State × List Raise) : State := r.1.raiseAll r.2

/-- The transfer into zone `z`, if there is one. -/
def transferInto (z : Fin 9) : Option (Fin 8) :=
  match h : z.val with
  | 0 => none
  | n + 1 => some ⟨n, by have := z.isLt; omega⟩

/-- The arrival eye of zone `z` goes from clear to blocked (R3, R9, R12). -/
def State.zoneEyeBlocked (z : Fin 9) (s : State) : State :=
  match transferInto z with
  | none => if s.zone zIn = .empty then s.arriveAtIn else s
  | some t => if (s.transfer t).isRunning then State.withRaises (s.completeTransfer t) else s

/-- REJECT_EYE goes from clear to blocked: a running reject transfer completes (R18). -/
def State.rejectEyeBlocked (s : State) : State :=
  if s.seq.reject.isRunning then State.withRaises s.completeReject else s

/-- EXIT_EYE goes from blocked to clear: an exit in flight completes, its drives running or stopped (R20). -/
def State.exitEyeCleared (s : State) : State := if s.seq.exit = .idle then s else s.completeExit

/-- What an edge of an eye does (R3). -/
def edgeEffect (e : Eye) (blocked : Bool) : State → State :=
  match e, blocked with
  | .zone z, true => State.zoneEyeBlocked z
  | .reject, true => State.rejectEyeBlocked
  | .exit, false => State.exitEyeCleared
  | _, _ => id

/-- An eye takes a level; where that is an edge, its effect follows, and in either case the event ends as every event
does. -/
def State.eyeEdge (s : State) (e : Eye) (blocked : Bool) : State :=
  if s.eyeLevel e = blocked then s.event id else (s.setEye e blocked).event (edgeEffect e blocked)

/-- IN_ARRIVAL (R9): the IN arrival eye goes blocked. -/
def execInArrival (s : State) : Answered := .next (s.eyeEdge (.zone zIn) true)

/-- EYE_EDGE_NO_EFFECT (R3): an eye takes a level. -/
def execEyeEdgeNoEffect (e : Eye) (blocked : Bool) (s : State) : Answered := .next (s.eyeEdge e blocked)

/-- TRANSFER_START (R11): the start of the transfer from `z` is judged. -/
def execTransferStart (z : Fin 8) (s : State) : Answered := .next (s.event (·.tryTransfer z))

/-- TRANSFER_COMPLETE (R12): the arrival eye of `z + 1` goes blocked. -/
def execTransferComplete (z : Fin 8) (s : State) : Answered := .next (s.eyeEdge (.zone (dstZone z)) true)

/-- JAM(z + 1) is raised for the transfer from `z` (R13), whose expiry is then taken. -/
def State.transferExpired (z : Fin 8) (s : State) : State :=
  let s1 := s.raise .jam (some ((dstZone z).castLE (by decide)))
  s1.setTransfer z (s1.transfer z).taken

/-- TRANSFER_TIMEOUT (R13): T_transfer of the transfer from `z` expires. -/
def execTransferTimeout (z : Fin 8) (s : State) : Answered :=
  .next (s.event (fun s => s.onMotionExpiry (s.transfer z) (tenths s.cfg.tTransfer) (State.transferExpired z)))

/-- REJECT_TRANSFER_START (R17): REJECT_FULL has the level given, and the reject transfer's start is judged (log 6). -/
def execRejectTransferStart (rejectFull : Bool) (s : State) : Answered :=
  .next ({ s with inp := { s.inp with rejectFull := rejectFull } }.event State.tryReject)

/-- REJECT_TRANSFER_COMPLETE (R18): REJECT_EYE goes blocked. -/
def execRejectTransferComplete (s : State) : Answered := .next (s.eyeEdge .reject true)

/-- JAM(10) is raised for the reject transfer (R18), whose expiry is then taken. -/
def State.rejectExpired (s : State) : State :=
  let s1 := s.raise .jam (some 10)
  { s1 with seq := { s1.seq with reject := s1.seq.reject.taken } }

/-- REJECT_TRANSFER_TIMEOUT (R18): T_transfer of the reject transfer expires. -/
def execRejectTransferTimeout (s : State) : Answered :=
  .next (s.event (fun s => s.onMotionExpiry s.seq.reject (tenths s.cfg.tTransfer) State.rejectExpired))

/-- EXIT_START (R158): MERGE_CLEAR has the level given, and the exit's start is judged (log 6). -/
def execExitStart (mergeClear : Bool) (s : State) : Answered :=
  .next ({ s with inp := { s.inp with mergeClear := mergeClear } }.event (fun s => s.when s.canExit State.startExit))

/-- EXIT_COMPLETE (R20): EXIT_EYE goes clear. -/
def execExitComplete (s : State) : Answered := .next (s.eyeEdge .exit false)

/-- EXIT_TIMEOUT is raised with zone 9 (R21), and the exit's expiry is then taken. -/
def State.exitExpired (s : State) : State :=
  let s1 := s.raise .exitTimeout (some 9)
  { s1 with seq := { s1.seq with exit := s1.seq.exit.taken } }

/-- EXIT_TIMEOUT (R21): T_exit expires. -/
def execExitTimeout (s : State) : Answered :=
  .next (s.event (fun s => s.onMotionExpiry s.seq.exit (tenths s.cfg.tExit) State.exitExpired))

end Sys2Proof.Machine
end

