-- ==== Sys2Proof/Machine/Release.lean ====
section
/-! DEFINITION. Chapter 8's commands, and the completion of the station's own notice (R136), which the Load View and
the Release Unit act on: Claim, Released, Abandon, Skip, Load Close, T_claim, the Claim's queuing and the stall. -/

namespace Sys2Proof.Machine

/-! ## The completion of an own notice (R136, R156, R159) -/

/-- FRONT holds a WAITING record without reasons that is identified to (L, k) (R156). -/
def State.frontWaitsFor (s : State) (load : BitVec 16) (k : BitVec 8) : Bool :=
  match s.pallet zFront with
  | some p => p.passes && s.frontIn load k == some .waiting
  | none => false

/-- The entry of the load holds this station's own claim for the sequence (R156). -/
def State.ownClaimHeld (s : State) (load : BitVec 16) (k : BitVec 8) : Bool :=
  match s.loadEntry load with
  | some e => claimIs e.claim s.own k
  | none => false

/-- The Release Unit acts on its Claim's whole completion (R156). `marked` says that the Claim was marked for
removal. -/
def State.ownClaimDone (s : State) (marked : Bool) (load : BitVec 16) (k : BitVec 8) : State :=
  if marked = false ∧ s.frontStage = some .claimQueued then s.setStage .claimWon
  else if s.mon.lane = .fault then s.joinFollowUp (.abandon load k)
  else if s.ownClaimHeld load k then
    if s.frontWaitsFor load k then s.setStage .claimWon else s.joinFollowUp (.abandon load k)
  else s.releaseFollowUp

/-- The exit-slot record carries (L, k). -/
def State.exitSlotIs (s : State) (load : BitVec 16) (k : BitVec 8) : Bool :=
  match s.track.exitSlot with
  | some p =>
    match p.manifest with
    | some m => m.load == load && m.seq == k
    | none => false
  | none => false

/-- The Release Unit acts on its Released's whole completion: the exit-slot record leaves the track (R159). -/
def State.ownReleasedDone (s : State) (load : BitVec 16) (k : BitVec 8) : State :=
  if s.exitSlotIs load k then s.removeExited .released else s

/-- T_manifest of the entry of a track tag starts at its request's completion (R42). -/
def State.requestDone (s : State) (tag : BitVec 8) : State :=
  { s with tracker := s.tracker.map (fun e => if e.tag = tag then { e with tManifest := some s.clock } else e) }

/-- A completed notice is handed to its owner (R136). -/
def State.ownerDone (s : State) (marked : Bool) : Notice → State
  | .claim load k _ _ => ((s.applyClaim s.own load k).judgeRise s load none).ownClaimDone marked load k
  | .released load k => ((s.applyReleased load k).ownReleasedDone load k).judgeRise s load (some k)
  | .abandon load k => s.applyAbandon s.own load k
  | .manifestRequest _ tag => s.requestDone tag
  | _ => s

/-- The head notice of a queue; the Dispatch Ring's records have no owner to tell. -/
def State.headNotice (s : State) : Source → Option Notice
  | .sequence => s.tx.sequence.head?
  | .request => s.tx.request.head?
  | .report => s.tx.report.head?
  | .ring => none

/-- Nothing is in flight any more; the line state follows (R131). -/
def DockLine.endFlight (l : DockLine) (state : LineState) : DockLine :=
  { l with state := state, inFlight := none, marked := false, driving := none }

/-- The last sender, the retry count and the congested flag at a completion, and the line in GAP (R136, R134). -/
def State.creditLine (s : State) : State :=
  { s with line := { s.line.endFlight .gap with
      lastSender := s.own, retry := 0, congested := false, trainPos := s.line.trainPos + 1, waitSlots := 0 } }

/-- The completed notice leaves its source, which is served (R136, R140). -/
def State.serve (s : State) (src : Source) : State :=
  let s1 := s.removeHead src
  { s1 with tx := { s1.tx with pointer := servedPointer s.cfg.arbMode s.tx.pointer src } }

/-- The readback of the notice being sent completes whole (R136). -/
def State.ownComplete (s : State) : State :=
  match s.line.inFlight with
  | none => s
  | some src =>
    if s.line.state = .send then
      let s1 := s.creditLine.serve src
      match s.headNotice src with
      | some n => s1.ownerDone s.line.marked n
      | none => s1
    else s

/-- The notice received is the station's own, read back whole: it is the head of the Sequence queue, in flight
(R130, R136). -/
def State.ownReadback (s : State) (src : Station) (dst : BitVec 4) (n : Notice) : Bool :=
  src == s.own && s.line.state == .send && s.line.inFlight == some .sequence && dst == 15#4 && s.tx.sequence.head? == some n

/-! ## Claim, Released, Abandon, Skip, Load Close -/

/-- The content check of Claim, Released and Abandon (R146). -/
def numbered (load : BitVec 16) (k : BitVec 8) : Bool := load != 0 && k != 0

/-- A Claim from another station: the Load View takes it (R147), and the FRONT record meets it (R157, R161, R162). -/
def State.takeClaim (s : State) (src : Station) (load : BitVec 16) (k : BitVec 8) : State :=
  ((s.applyClaim src load k).judgeRise s load none).meetForeignClaim load k

/-- CLAIM (R147): from another station, or the own Claim read back. -/
def execClaim (src : Station) (dst : BitVec 4) (load : BitVec 16) (seq : BitVec 8) (forced : Bool) (ident : BitVec 32)
    (s : State) : Answered :=
  .next (s.event (fun s =>
    if s.ownReadback src dst (.claim load seq forced ident) then s.ownComplete
    else s.takeNotice src true (fun s => s.checked (numbered load seq) (·.takeClaim src load seq))))

/-- A Released from another station (R148, R161, R162). -/
def State.takeReleased (s : State) (load : BitVec 16) (k : BitVec 8) : State :=
  ((s.applyReleased load k).judgeRise s load (some k)).meetForeignReleased load k

/-- RELEASED (R148): from another station, or the own Released read back. -/
def execReleased (src : Station) (dst : BitVec 4) (load : BitVec 16) (seq : BitVec 8) (s : State) : Answered :=
  .next (s.event (fun s =>
    if s.ownReadback src dst (.released load seq) then s.ownComplete
    else s.takeNotice src true (fun s => s.checked (numbered load seq) (·.takeReleased load seq))))

/-- ABANDON (R149): from another station, or the own Abandon read back. -/
def execAbandon (src : Station) (dst : BitVec 4) (load : BitVec 16) (seq : BitVec 8) (s : State) : Answered :=
  .next (s.event (fun s =>
    if s.ownReadback src dst (.abandon load seq) then s.ownComplete
    else s.takeNotice src true (fun s => s.checked (numbered load seq) (·.applyAbandon src load seq))))

/-- The content check of a Skip (R146). -/
def skipOk (load next : BitVec 16) : Bool := load != 0 && decide (1 ≤ next.toNat) && decide (next.toNat ≤ 256)

/-- A Skip (R150), which may overtake the FRONT record (R161). -/
def State.takeSkip (s : State) (load : BitVec 16) (n : Nat) : State := (s.applySkip load n).judgeRise s load none

/-- SKIP (R150). -/
def execSkip (src : Station) (dst : BitVec 4) (load next : BitVec 16) (s : State) : Answered :=
  .next (s.event (fun s => s.takeNotice src (s.addressed dst)
    (fun s => s.checked (skipOk load next) (·.takeSkip load next.toNat))))

/-- LOAD_CLOSE (R151). -/
def execLoadClose (src : Station) (dst : BitVec 4) (load : BitVec 16) (s : State) : Answered :=
  .next (s.event (fun s => s.takeNotice src (s.addressed dst) (fun s => s.checked (load != 0) (·.applyClose load))))

/-! ## Timers and the Claim's queuing -/

/-- The T_claim timer of a load's entry (R152). -/
def State.claimTimer (s : State) (load : BitVec 16) : Option Ms := (s.loadEntry load).bind (fun e => e.claim.map (·.since))

/-- CLAIM_TIMEOUT (R152): T_claim of the load's entry expires. -/
def execClaimTimeout (load : BitVec 16) (s : State) : Answered :=
  .next (s.event (fun s => s.onExpiry (s.claimTimer load) (seconds s.cfg.tClaim) (·.expireClaim load)))

/-- CLAIM_QUEUE (R155): MERGE_CLEAR has the level given, and the Claim's queuing is judged (log 6). -/
def execClaimQueue (mergeClear : Bool) (s : State) : Answered :=
  .next ({ s with inp := { s.inp with mergeClear := mergeClear } }.event State.tryClaim)

/-- The expiry of the stall timer (R163). One that was taken before, with the joins of an event of this instant, is not
taken again (log 33). -/
def State.stallTimesOut (s : State) : State :=
  if s.tx.ahead = some s.clock then { s with tx := { s.tx with ahead := none } }
  else s.onExpiry s.rel.stall (seconds s.cfg.tWait) State.stallExpired

/-- STALL_TIMEOUT (R163). -/
def execStallTimeout (s : State) : Answered := .next (s.event State.stallTimesOut)

end Sys2Proof.Machine
end

