-- ==== Sys2Proof/Machine/Control.lean ====
section
/-! DEFINITION. Chapter 9's commands: START, STOP, ACK, FORCE_RELEASE, PURGE and RESTART (R22 to R28, R164, R169 to
R172), an unassigned command code, ESTOP and RUN_ON. -/

namespace Sys2Proof.Machine

/-- The last command result is written (R169). -/
def State.record (s : State) (c : Command) (r : Result) (origin : Option Station) : State :=
  { s with mon := { s.mon with last := some ⟨c, r, origin, s.clock⟩ } }

/-- A lane command from a notice: taken if it is addressed to this lane (R130, R169). -/
def State.lineCommand (s : State) (src : Station) (dst : BitVec 4) (f : Option Station → State → State) : State :=
  s.event (·.takeNotice src (s.addressed dst) (f (some src)))

/-- The immediate causes that persist: ESTOP asserted, FRONT with a DUPLICATE record (R170, R172). -/
def State.causePersists (s : State) : Bool := s.inp.estop || s.frontDuplicate

/-- An immediate fault remains (R170, R172). -/
def State.immediateRemains (s : State) : Bool := s.mon.faults.any (·.kind.immediate) || s.causePersists

/-! ## START and STOP (R166, R170, R171) -/

/-- Every abandoned transfer and the abandoned reject transfer are examined, with the faults to raise (R15). -/
def State.examineAll (s : State) : State × List Raise :=
  let r := ([0, 1, 2, 3, 4, 5, 6, 7] : List (Fin 8)).foldl
    (fun (acc : State × List Raise) z => ((acc.1.examineTransfer z).1, acc.2 ++ (acc.1.examineTransfer z).2)) (s, [])
  ((r.1.examineReject).1, r.2 ++ (r.1.examineReject).2)

/-- TABLE with an aborted wrap becomes READY at the entry into RUNNING (R110). -/
def State.readyAborted (s : State) : State :=
  match s.pallet zTable with
  | some p => if s.zone zTable = .occupied ∧ p.wrap = .aborted then s.setZone zTable .ready else s
  | none => s

/-- The lane enters RUNNING, with the effects of R166; the faults found are raised after them (log 9). -/
def State.enterRunning (s : State) : State :=
  let r := (s.setLane .running).examineAll
  r.1.readyAborted.enterHoming.resumeExit.raiseAll r.2

/-- START is accepted (R170). -/
def State.startAllowed (s : State) : Bool := s.mon.lane == .stopped && !s.immediateRemains

/-- START's effect (R170). -/
def State.doStart (origin : Option Station) (s : State) : State :=
  if s.startAllowed then (s.record .start .accepted origin).enterRunning else s.record .start .refusedState origin

/-- START (R170). -/
def execStart (src : Station) (dst : BitVec 4) (s : State) : Answered := .next (s.lineCommand src dst State.doStart)

/-- STOP's effect (R171): STOPPING, which ends at once when no motion is in progress (R168). -/
def State.doStop (origin : Option Station) (s : State) : State :=
  if s.running then ((s.record .stop .accepted origin).setLane .stopping).leaveRelease
  else s.record .stop .refusedState origin

/-- STOP (R171). -/
def execStop (src : Station) (dst : BitVec 4) (s : State) : Answered := .next (s.lineCommand src dst State.doStop)

/-! ## ACK (R172) -/

/-- The entry's cause is still present at ACK (R177). -/
def FaultEntry.stays (e : FaultEntry) : Bool := e.kind.observed && e.present

/-- ACK's effect, in R172's order. -/
def State.doAck (origin : Option Station) (s : State) : State :=
  let s1 := s.record .ack .accepted origin
  let s2 := { s1 with mon := { s1.mon with faults := s1.mon.faults.filter FaultEntry.stays, overflow := false } }
  if s2.mon.lane = .fault ∧ s2.immediateRemains = false then s2.setLane .stopped else s2

/-- ACK (R172): from the line, or from ACK_PUSH at its assertion (R169). -/
def execAck (origin : Origin) (s : State) : Answered :=
  .next (match origin with
    | .line src dst => s.lineCommand src dst State.doAck
    | .push asserted =>
      if s.inp.ackPush = asserted then s.event id
      else { s with inp := { s.inp with ackPush := asserted } }.event (if asserted then State.doAck none else id))

/-! ## FORCE_RELEASE (R164) -/

/-- FRONT is READY and its record's reason set is empty (R164). -/
def State.frontReleasable (s : State) : Bool :=
  s.zone zFront == .ready
    && (match s.pallet zFront with
        | some p => p.passes
        | none => false)

/-- The checks of R164, in their order. -/
def State.forceResult (s : State) : Result :=
  if s.running = false then .refusedState
  else if s.frontReleasable = false then .refusedNothing
  else if s.noStage = false ∨ s.rel.followUp = true then .refusedBusy
  else .accepted

/-- FORCE_RELEASE's effect (R164). -/
def State.doForce (origin : Option Station) (s : State) : State :=
  let s1 := s.record .forceRelease s.forceResult origin
  if s.forceResult = .accepted then { s1 with rel := { s1.rel with force := true } } else s1

/-- FORCE_RELEASE (R164). -/
def execForceRelease (src : Station) (dst : BitVec 4) (s : State) : Answered :=
  .next (s.lineCommand src dst State.doForce)

/-! ## PURGE (R22, R23) -/

/-- The lane is STOPPED or in FAULT (R22, R24). -/
def State.standing (s : State) : Bool := s.mon.lane == .stopped || s.mon.lane == .fault

/-- The zone can be purged: it holds a record that is not EXITING, and its eye is clear (R22). -/
def State.purgeable (s : State) (z : Fin 9) : Bool :=
  !s.eye z
    && (match s.pallet z with
        | some p => p.stage != .exiting
        | none => false)

/-- The zone number of a PURGE as a zone (R22). -/
def zoneOfByte (zone : Byte) : Option (Fin 9) := if h : zone.toNat < 9 then some ⟨zone.toNat, h⟩ else none

/-- The transfer out of zone `z`, if there is one. -/
def transferOut (z : Fin 9) : Option (Fin 8) := if h : z.val < 8 then some ⟨z.val, h⟩ else none

/-- An abandoned motion out of the zone is dropped (R23). -/
def State.dropMotionOut (s : State) (z : Fin 9) : State :=
  let s1 := match transferOut z with
    | some t => if (s.transfer t).isAbandoned then s.dropTransfer t else s
    | none => s
  if z = zDivert ∧ s1.seq.reject.isAbandoned = true then { s1 with seq := { s1.seq with reject := .idle } } else s1

/-- The record of the zone is purged (R23). -/
def State.purgeZone (s : State) (z : Fin 9) : State :=
  match s.pallet z with
  | none => s
  | some p =>
    let s1 := if z = zFront then s.abandonWon else s
    ((s1.dropMotionOut z).removeRecord z).appendRecord (dispatchRecord p .purged s.clock)

/-- PURGE's effect (R22, R23). -/
def State.doPurge (zone : Byte) (origin : Option Station) (s : State) : State :=
  if s.standing then
    match zoneOfByte zone with
    | some z =>
      if s.purgeable z then (s.record (.purge zone) .accepted origin).purgeZone z
      else s.record (.purge zone) .refusedZone origin
    | none => s.record (.purge zone) .refusedZone origin
  else s.record (.purge zone) .refusedState origin

/-- PURGE (R22). -/
def execPurge (src : Station) (dst : BitVec 4) (zone : Byte) (s : State) : Answered :=
  .next (s.lineCommand src dst (State.doPurge zone))

/-! ## Lane restart (R24 to R28) -/

/-- All motion stops (R25). -/
def State.stopMotions (s : State) : State :=
  { s with
    seq := { s.seq with transfers := Vector.replicate 8 .idle, reject := .idle, exit := .idle }
    wrap := { s.wrap.outputsOff with state := .idle, stallDue := none } }

/-- The Abandon that R27 queues for a FRONT record noted in CLAIM_WON or EXITING (R25). -/
def State.notedAbandon (s : State) : Option Notice :=
  match s.pallet zFront with
  | some p => if p.stage = .claimWon ∨ p.stage = .exiting then some (abandonOf p) else none
  | none => none

/-- One record is removed, with its CLEARED dispatch record when it is identified (R25). -/
def State.clearZone (s : State) (z : Fin 9) : State :=
  match s.pallet z with
  | none => s
  | some p =>
    let s1 := s.removeRecord z
    if p.manifest.isSome then s1.appendRecord (dispatchRecord p .cleared s.clock) else s1

/-- R25: motion stopped, the weighing ended (R66), every record removed from IN to FRONT, every zone EMPTY. -/
def State.clearTrack (s : State) : State :=
  let s1 := (allZones.foldl State.clearZone s.stopMotions).endWeighing
  { s1 with seq := { s1.seq with zones := Vector.replicate 9 .empty } }

/-- An orphan is created in a zone whose eye is blocked; in TABLE it is given wrap outcome SKIPPED (R26, R94). -/
def State.addOrphan (s : State) (z : Fin 9) : State :=
  if s.eye z then
    let s1 := (s.createRecord z true).setZone z .ready
    if z = zTable then s1.updPallet zTable (fun p => { p with wrap := .skipped }) else s1
  else s

/-- A Sequence notice in flight is cut off: the station stops driving at once and the train ends (R138). -/
def State.cutOff (s : State) : State :=
  if s.line.inFlight = some .sequence then
    { s with line := { s.line.endFlight .idle with trainPos := 0, waitSlots := 0 } }
  else s

/-- R27: the Request Tracker and the Sequence queue are emptied, and the noted Abandon is queued. -/
def State.clearLineWork (s : State) (noted : Option Notice) : State :=
  let s1 := (s.tracker.foldl (fun s e => s.freeEntry e.tag) s).cutOff
  { s1 with
    tx := { s1.tx with sequence := noted.toList, rejectReserved := false, unplaced := none }
    rel := ⟨false, false, none⟩ }

/-- A lane restart (R25 to R28). -/
def State.laneRestart (s : State) : State :=
  (((allZones.foldl State.addOrphan s.clearTrack).clearLineWork s.notedAbandon).removeExited .cleared).setLane .stopped

/-- RESTART's effect (R24). -/
def State.doRestart (origin : Option Station) (s : State) : State :=
  if s.standing then (s.record .restart .accepted origin).laneRestart else s.record .restart .refusedState origin

/-- RESTART (R24): from the line, or from RESTART_PUSH at its assertion (R169). -/
def execRestart (origin : Origin) (s : State) : Answered :=
  .next (match origin with
    | .line src dst => s.lineCommand src dst State.doRestart
    | .push asserted =>
      if s.inp.restartPush = asserted then s.event id
      else { s with inp := { s.inp with restartPush := asserted } }.event (if asserted then State.doRestart none else id))

/-! ## Unassigned codes, ESTOP, RUN_ON -/

/-- The command code is assigned (R201). -/
def codeAssigned (code : Byte) : Bool := decide (1 ≤ code.toNat) && decide (code.toNat ≤ 6)

/-- LANE_COMMAND_UNASSIGNED (R169): the notice is discarded as a line error, and no result is written. -/
def execLaneCommandUnassigned (src : Station) (dst : BitVec 4) (code : Byte) (s : State) : Answered :=
  .next (s.event (fun s => s.takeNotice src (s.addressed dst) (·.checked (codeAssigned code) id)))

/-- ESTOP changes: an assertion raises ESTOP, a deassertion takes its cause away (R178). -/
def State.estopMoves (s : State) (asserted : Bool) : State :=
  if asserted then s.raise .estop none else s.causeGone .estop

/-- ESTOP_INPUT (R178): the ESTOP input takes a level. -/
def execEstopInput (asserted : Bool) (s : State) : Answered :=
  .next (if s.inp.estop = asserted then s.event id
    else { s with inp := { s.inp with estop := asserted } }.event (·.estopMoves asserted))

/-- RUN_ON_INPUT (R176): the RUN_ON input takes a level; its assertion ends every block of a deferred fault. -/
def execRunOnInput (asserted : Bool) (s : State) : Answered :=
  .next ({ s with inp := { s.inp with runOn := asserted } }.event id)

end Sys2Proof.Machine
end

