-- ==== Sys2Proof/Machine/Identify.lean ====
section
/-! DEFINITION. Chapter 2's commands: the tag read, the Manifest Cache, the Request Tracker and Manifest Void. -/

namespace Sys2Proof.Machine

/-! ## The Manifest Cache (R34 to R39) -/

/-- The ways of a set, in order. -/
def allWays : List (Fin 4) := [0, 1, 2, 3]

/-- The way of a set that holds a valid entry for the ident (R38). -/
def CacheSet.findWay (c : CacheSet) (ident : BitVec 32) : Option (Fin 4) :=
  allWays.find? (fun w => (c.ways[w.val]).valid && (c.ways[w.val]).ident == ident)

/-- The lowest-numbered invalid way (R35). -/
def CacheSet.freeWay (c : CacheSet) : Option (Fin 4) := allWays.find? (fun w => !(c.ways[w.val]).valid)

/-- The victim way that the replacement bits choose (R35). -/
def CacheSet.victim (c : CacheSet) : Fin 4 :=
  if c.b0 then (if c.b2 then 3 else 2) else (if c.b1 then 1 else 0)

/-- The way a manifest for the ident is written to: in place, else the lowest invalid way, else the victim (R35). -/
def CacheSet.target (c : CacheSet) (ident : BitVec 32) : Fin 4 :=
  match c.findWay ident with
  | some w => w
  | none =>
    match c.freeWay with
    | some w => w
    | none => c.victim

/-- The replacement bits point away from the way just written (R36). -/
def CacheSet.pointAway (c : CacheSet) (w : Fin 4) : CacheSet :=
  match w.val with
  | 0 => { c with b0 := true, b1 := true }
  | 1 => { c with b0 := true, b1 := false }
  | 2 => { c with b0 := false, b2 := true }
  | _ => { c with b0 := false, b2 := false }

/-- A set with a manifest stored (R35, R36). -/
def CacheSet.store (c : CacheSet) (m : Manifest) : CacheSet :=
  let w := c.target m.ident
  { c with ways := c.ways.set w.val ⟨true, m.ident, m⟩ w.isLt }.pointAway w

/-- A set with a way's valid flag cleared; the bits are not changed (R39, R47). -/
def CacheSet.invalidate (c : CacheSet) (w : Fin 4) : CacheSet :=
  { c with ways := c.ways.set w.val { c.ways[w.val] with valid := false } w.isLt }

/-- A set of the cache is replaced. -/
def State.setCacheSet (s : State) (i : Fin 16) (c : CacheSet) : State := { s with cache := s.cache.set i.val c i.isLt }

/-- A manifest is stored in the set of its ident (R35). -/
def State.storeManifest (s : State) (m : Manifest) : State :=
  s.setCacheSet (setOf m.ident) ((s.cacheSet (setOf m.ident)).store m)

/-- The valid entry for an ident, with its way (R38). -/
def State.lookup (s : State) (ident : BitVec 32) : Option (Fin 4) := (s.cacheSet (setOf ident)).findWay ident

/-- Consumption of the entry for `ident` in way `w` by the record of zone `z`: the manifest is copied, the valid flag
cleared, the pallet counted in its load (R39). -/
def State.consume (s : State) (z : Fin 9) (ident : BitVec 32) (w : Fin 4) : State :=
  let c := s.cacheSet (setOf ident)
  let m := (c.ways[w.val]).manifest
  ((s.updPallet z (fun p => { p with manifest := some m })).setCacheSet (setOf ident) (c.invalidate w)).countIdentified m

/-! ## The tag read (R29 to R31, R40) -/

/-- The Request Tracker takes an entry; its Manifest Request is to join the Request queue (R40). More than two cannot
be asked for (R41; log 20). -/
def State.takeEntry (s : State) (ident : BitVec 32) (tag : BitVec 8) : State :=
  if s.tracker.length < 2 then { s with tracker := s.tracker ++ [⟨ident, tag, s.cfg.retries, false, none⟩] } else s

/-- A new ident in the IN record: a duplicate, a hit that is consumed, or a miss that is requested (R31, R38, R40). -/
def State.identify (s : State) (ident : BitVec 32) (tag : BitVec 8) : State :=
  if s.identElsewhere zIn ident then s.addReason zIn .duplicate
  else
    match s.lookup ident with
    | some w => s.consume zIn ident w
    | none => s.takeEntry ident tag

/-- An outstanding read is resolved: T_read stops, the noted tag is cleared, IN becomes READY (R30, R10). -/
def State.readResolved (s : State) : State := { s with read := ⟨none, none⟩ }.setZone zIn .ready

/-- A reply READ, or NO_READ when the ident is 0, for the record that awaits the read (R30). -/
def State.resolveRead (s : State) (ident : BitVec 32) : State :=
  match s.read.awaiting with
  | none => s
  | some tag =>
    if ident = 0#32 then (s.addReason zIn .unknown).readResolved
    else ((s.updPallet zIn (fun p => { p with ident := some ident })).identify ident tag).readResolved

/-- TAG_REPLY (R30): a reply from the tag reader; one that the link cannot decode is discarded. -/
def execTagReply (reply : TagReply) (s : State) : Answered :=
  .next (s.event (match reply with
    | .read ident => (·.resolveRead ident)
    | .noRead => (·.resolveRead 0#32)
    | .undecodable => id))

/-- TAG_READ_TIMEOUT (R30): T_read expires, as NO_READ. -/
def execTagReadTimeout (s : State) : Answered :=
  .next (s.event (fun s => s.onExpiry s.read.tRead (tenths s.cfg.tRead) (·.resolveRead 0#32)))

/-- MANIFEST_REQUEST_JOIN (R40): waiting Manifest Requests join the Request queue where it has a place. -/
def execManifestRequestJoin (s : State) : Answered := .next (s.event State.joinRequests)

/-! ## Manifest requests that expire (R43) -/

/-- The Request Tracker entry of a track tag. -/
def State.entryOf (s : State) (tag : BitVec 8) : Option TrackEntry := s.tracker.find? (fun e => e.tag == tag)

/-- The expiry of an entry's T_manifest: a retry is queued, or with none left the record gets UNKNOWN and the entry is
freed (R43). -/
def State.manifestExpired (s : State) (e : TrackEntry) : State :=
  if 0 < e.retries then
    { s with tracker := s.tracker.map (fun x =>
        if x.tag = e.tag then { x with retries := x.retries - 1, joined := false, tManifest := none } else x) }
  else (s.updTagged e.tag (·.addReason .unknown)).freeEntry e.tag

/-- MANIFEST_TIMEOUT (R43): T_manifest of the entry for the track tag expires. -/
def execManifestTimeout (tag : BitVec 8) (s : State) : Answered :=
  .next (s.event (fun s =>
    match s.entryOf tag with
    | some e => s.onExpiry e.tManifest (tenths s.cfg.tManifest) (·.manifestExpired e)
    | none => s))

/-! ## Manifests and voids from the line (R33, R37, R44, R47) -/

/-- The content check of a Manifest (R33). -/
def manifestOk (m : Manifest) : Bool :=
  m.ident != 0 && m.load != 0 && m.seq != 0 && m.total != 0 && decide (m.seq.toNat ≤ m.total.toNat)
    && decide (1 ≤ m.issueNext.toNat) && decide (m.issueNext.toNat ≤ 256)

/-- The manifest as stored: a unit mass of 0 is replaced by 1 (R33). -/
def storedForm (m : Manifest) : Manifest := if m.unitMass = 0#16 then { m with unitMass := 1 } else m

/-- The tracker entry that holds an ident. -/
def State.entryForIdent (s : State) (ident : BitVec 32) : Option TrackEntry := s.tracker.find? (fun e => e.ident == ident)

/-- A stored manifest is delivered to the record that waits for it, and its tracker entry is freed (R44). -/
def State.deliver (s : State) (ident : BitVec 32) : State :=
  match s.entryForIdent ident with
  | none => s
  | some e =>
    match s.zoneOfTag e.tag, s.lookup ident with
    | some z, some w => (s.consume z ident w).freeEntry e.tag
    | _, _ => s.freeEntry e.tag

/-- A manifest that passed the check: stored, offered to the Load View, and delivered (R35, R37, R44). -/
def State.acceptManifest (s : State) (m : Manifest) : State :=
  let s1 := s.storeManifest m
  ((s1.applyManifest m).judgeRise s1 m.load none).deliver m.ident

/-- MANIFEST (R33). -/
def execManifest (src : Station) (dst : BitVec 4) (m : Manifest) (s : State) : Answered :=
  .next (s.event (fun s => s.takeNotice src (s.addressed dst)
    (fun s => s.checked (manifestOk m) (·.acceptManifest (storedForm m)))))

/-- A valid cache entry that holds the ident is invalidated (R47). -/
def State.voidCache (s : State) (ident : BitVec 32) : State :=
  match s.lookup ident with
  | some w => s.setCacheSet (setOf ident) ((s.cacheSet (setOf ident)).invalidate w)
  | none => s

/-- A tracker entry that holds the ident is freed (R47). -/
def State.voidEntry (s : State) (ident : BitVec 32) : State :=
  match s.entryForIdent ident with
  | some e => s.freeEntry e.tag
  | none => s

/-- The record carries the ident in a stage that a Void reaches (R47). -/
def PalletRecord.voidable (p : PalletRecord) (ident : BitVec 32) : Bool := p.ident == some ident && p.stage.overtakable

/-- Every record in the zones that carries the ident, before its exit, gets VOIDED (R47). -/
def State.voidRecords (s : State) (ident : BitVec 32) : State :=
  { s with track := { s.track with
      recs := s.track.recs.map (fun r => r.map (fun p => if p.voidable ident then p.addReason .voided else p)) } }

/-- A voided FRONT record's claim is taken back (R48). -/
def State.voidClaim (s : State) (ident : BitVec 32) : State :=
  match s.pallet zFront with
  | some p => if p.voidable ident then s.unqueueClaim.abandonWon else s
  | none => s

/-- MANIFEST_VOID (R47): the cache, the tracker, the records and the FRONT record's claim. -/
def execManifestVoid (src : Station) (dst : BitVec 4) (ident : BitVec 32) (s : State) : Answered :=
  .next (s.event (fun s => s.takeNotice src (s.addressed dst)
    (fun s => (((s.voidCache ident).voidEntry ident).voidClaim ident).voidRecords ident)))

end Sys2Proof.Machine
end

