-- ==== Sys2Proof/Machine/Label.lean ====
section
/-! DEFINITION. Chapter 6's commands: composition, the units' answers, T_print, LABEL_MARK, the conveyor pulse, the
applicator pulse, the confirmations, T_apply and LABEL_LOW. -/

namespace Sys2Proof.Machine

/-- LABEL_COMPOSE (R117): a BLOCKED job is composed if nothing blocks it. -/
def execLabelCompose (s : State) : Answered := .next (s.event (fun s => s.when s.canCompose State.doCompose))

/-! ## Answers and T_print (R115, R118) -/

/-- READY from a side: the side is READY; when both are, T_print stops and the phase becomes CONSENTED (R118). -/
def readyJob (j : Job) (d : Side) : Job :=
  let j1 := j.setSide d .ready
  if j1.left = .ready ∧ j1.right = .ready then { j1 with phase := .consented, tPrint := none } else j1

/-- An answer from a unit, taken only while the PRINTING job has that side PENDING (R115, R118). -/
def State.takeAnswer (s : State) (d : Side) (a : UnitAnswer) : State :=
  match s.label.tableJob with
  | none => s
  | some j =>
    if j.phase = .printing ∧ j.side d = .pending then
      match a with
      | .ready => s.setTableJob (some (readyJob j d))
      | .error => s.failJob (d == .left) (d == .right)
      | .undecodable => s
    else s

/-- LABEL_ANSWER (R118). -/
def execLabelAnswer (side : Side) (answer : UnitAnswer) (s : State) : Answered := .next (s.event (·.takeAnswer side answer))

/-- The T_print timer of the TABLE record's job. -/
def State.printTimer (s : State) : Option Ms := s.label.tableJob.bind (·.tPrint)

/-- T_print expires: the PRINTING job fails with every side still PENDING (R118). -/
def State.printExpired (s : State) : State :=
  match s.label.tableJob with
  | some j => if j.phase = .printing then s.failJob (j.left == .pending) (j.right == .pending) else s
  | none => s

/-- PRINT_TIMEOUT (R118): T_print expires. -/
def execPrintTimeout (s : State) : Answered :=
  .next (s.event (fun s => s.onExpiry s.printTimer (tenths s.cfg.tPrint) State.printExpired))

/-! ## Arming and firing (R120, R121) -/

/-- LABEL_MARK goes blocked: while the transfer from TABLE runs and the TABLE record's job is CONSENTED, the mark is
captured and the conveyor compare armed (R120). -/
def State.markBlocked (s : State) : State :=
  match s.label.tableJob, s.pallet zTable with
  | some j, some p =>
    if j.tag = p.tag ∧ j.phase = .consented ∧ (s.transfer 2).isRunning = true then
      { s with label := { s.label with
          tableJob := some { j with phase := .armed, mark := some s.wrap.conveyor }
          cmp := Compare.armAt (s.wrap.conveyor + s.cfg.applyOffset) } }.judgeConveyor
    else s
  | _, _ => s

/-- LABEL_MARK_EDGE (R120): the LABEL_MARK eye takes a level. -/
def execLabelMarkEdge (blocked : Bool) (s : State) : Answered :=
  .next (if s.inp.labelMark = blocked then s.event id
    else { s with inp := { s.inp with labelMark := blocked } }.event (if blocked then State.markBlocked else id))

/-- An outfeed encoder pulse: the conveyor counts up (R86), and the armed compare is judged (R120, R121). -/
def State.conveyorMoves (s : State) : State :=
  { s with wrap := { s.wrap with conveyor := s.wrap.conveyor + 1 } }.judgeConveyor

/-- CONVEYOR_PULSE (R86, R121). -/
def execConveyorPulse (s : State) : Answered := .next (s.event State.conveyorMoves)

/-- APPLY_PULSE_END (R121): the 100 ms pulse ends, and APPLY_L and APPLY_R go off. -/
def execApplyPulseEnd (s : State) : Answered := .next (s.event (fun s => s.onExpiry s.label.pulse 100 State.endPulse))

/-! ## Confirmations (R122) -/

/-- The level of a side's confirmation input. -/
def State.appliedLevel (s : State) : Side → Bool
  | .left => s.inp.appliedL
  | .right => s.inp.appliedR

/-- A side's confirmation input takes a level. -/
def State.setApplied (s : State) (d : Side) (v : Bool) : State :=
  match d with
  | .left => { s with inp := { s.inp with appliedL := v } }
  | .right => { s with inp := { s.inp with appliedR := v } }

/-- A FIRED side is SEEN (R122). -/
def seenJob (d : Side) (j : Job) : Job := if j.side d = .fired then j.setSide d .seen else j

/-- APPLIED_CONFIRMATION (R122): a confirmation input takes a level; its assertion makes a FIRED side SEEN. -/
def execAppliedConfirmation (side : Side) (asserted : Bool) (s : State) : Answered :=
  .next (if s.appliedLevel side = asserted then s.event id
    else (s.setApplied side asserted).event (if asserted then (·.onFired (seenJob side)) else id))

/-- A side still FIRED is MISSED (R122). -/
def SideState.expire : SideState → SideState
  | .fired => .missed
  | v => v

/-- Every side still FIRED becomes MISSED (R122). -/
def missedJob (j : Job) : Job := { j with left := j.left.expire, right := j.right.expire }

/-- The T_apply timer of the FIRED job. -/
def State.applyTimer (s : State) : Option Ms :=
  match s.label.labelJob with
  | some j => if j.isFired then j.tApply else none
  | none =>
    match s.label.tableJob with
    | some j => if j.isFired then j.tApply else none
    | none => none

/-- APPLY_TIMEOUT (R122): T_apply expires. -/
def execApplyTimeout (s : State) : Answered :=
  .next (s.event (fun s => s.onExpiry s.applyTimer (tenths s.cfg.tApply) (·.onFired missedJob)))

/-! ## Label stock (R124) -/

/-- The level of a side's LABEL_LOW input. -/
def State.labelLowLevel (s : State) : Side → Bool
  | .left => s.inp.labelLowL
  | .right => s.inp.labelLowR

/-- A side's LABEL_LOW input takes a level. -/
def State.setLabelLow (s : State) (d : Side) (v : Bool) : State :=
  match d with
  | .left => { s with inp := { s.inp with labelLowL := v } }
  | .right => { s with inp := { s.inp with labelLowR := v } }

/-- An assertion raises LABEL_LOW; the second deassertion takes its cause away (R124). -/
def State.labelLowMoves (s : State) (asserted : Bool) : State :=
  if asserted then s.raise .labelLow (some 3)
  else if s.inp.labelLowL = false ∧ s.inp.labelLowR = false then s.causeGone .labelLow
  else s

/-- LABEL_LOW_INPUT (R124): a LABEL_LOW input takes a level. -/
def execLabelLowInput (side : Side) (asserted : Bool) (s : State) : Answered :=
  .next (if s.labelLowLevel side = asserted then s.event id
    else (s.setLabelLow side asserted).event (·.labelLowMoves asserted))

end Sys2Proof.Machine
end

