-- ==== Sys2Proof/Machine/Loader.lean ====
section
/-! DEFINITION. Chapter 11's Configuration Loader: the block's layout (R202), its checks (R188) and its clamps
(R190). -/

namespace Sys2Proof.Machine

/-- The 256 bytes of the block; a byte that the memory did not give reads as 255 (R188; log 27). -/
def wholeBlock (bytes : List Byte) : List Byte := (bytes ++ List.replicate 256 255#8).take 256

/-- The unsigned total of bytes (chapter 11.1). -/
def byteTotal (bytes : List Byte) : Nat := (bytes.map (·.toNat)).sum

/-- The total of the first 254 bytes modulo 65536 agrees with the stored sum (R188). -/
def sumAgrees (b : List Byte) : Bool := byteTotal (b.take 254) % 65536 == beAt b 254 2

/-- A field of `w` bits from bit `lo` of the byte at `i` (R202). -/
def bitsAt (b : List Byte) (i lo w : Nat) : Nat := beAt b i 1 / 2 ^ lo % 2 ^ w

/-- A signed field of `n` bytes (R194). -/
def signedAt (b : List Byte) (i n : Nat) : Int := (BitVec.ofNat (8 * n) (beAt b i n)).toInt

/-- One byte that is used as a timeout: 0 is made 1 unit (R190 order 9). -/
def timeoutAt (b : List Byte) (i : Nat) : Nat := max 1 (beAt b i 1)

/-- One code of two bits: 3 is made 2 (R190 order 8). -/
def codeAt (b : List Byte) (i lo : Nat) : Nat := min 2 (bitsAt b i lo 2)

/-- One gain: 0 is made 1 (R190 order 2). -/
def gainAt (b : List Byte) (i : Nat) : Int := (max 1 (beAt b i 2) : Nat)

/-- The wrap class at offset `i` (R202). -/
def classAt (b : List Byte) (i : Nat) : WrapClass where
  bottomCount := bitsAt b i 0 4
  topCount := bitsAt b i 4 4
  cross := bitsAt b (i + 1) 0 1 == 1
  overlapMm := beAt b (i + 2) 1
  breakLevel := beAt b (i + 4) 2
  highLevel := beAt b (i + 6) 2

/-- T_claim is at least T_exit rounded up to whole seconds, plus 5 (R190 order 10). -/
def claimFloor (tExit : Nat) : Nat := (tExit + 9) / 10 + 5

/-- The configuration image of an accepted block: the layout of R202 with the clamps of R190. -/
def imageOf (b : List Byte) (station : Station) : Image where
  station := station
  recordAddr := BitVec.ofNat 4 (bitsAt b 0 4 4)
  bitRate := codeAt b 1 0
  arbMode := codeAt b 1 2
  frameRate := codeAt b 1 4
  wCode := bitsAt b 1 6 2
  slot4 := bitsAt b 2 0 1 == 1
  retries := min 3 (beAt b 3 1)
  zeros := ⟨signedAt b 4 3, signedAt b 7 3, signedAt b 10 3, signedAt b 13 3⟩
  gains := ⟨gainAt b 16, gainAt b 18, gainAt b 20, gainAt b 22⟩
  span := beAt b 24 2
  zeroLimit := beAt b 26 2
  tare := #v[beAt b 28 2, beAt b 30 2, beAt b 32 2, beAt b 34 2]
  tolerance := Vector.ofFn (fun (t : Fin 16) => ⟨beAt b (36 + 3 * t.val) 2, beAt b (38 + 3 * t.val) 1⟩)
  minGross := min 2000000 (max 1 (beAt b 84 3))
  latLimit := min 1000 (beAt b 88 2)
  longLimit := min 1000 (beAt b 90 2)
  mu := max 1 (beAt b 92 2)
  deckOffset := beAt b 94 2
  mastMax := BitVec.ofNat 16 (beAt b 96 2)
  bottomTarget := BitVec.ofNat 16 (beAt b 98 2)
  countsPerRev := max 100 (beAt b 100 2)
  parkAngle := BitVec.ofNat 16 (beAt b 102 2)
  forceGain := beAt b 104 2
  applyOffset := BitVec.ofNat 16 (beAt b 106 2)
  cutTime := timeoutAt b 108
  tRead := timeoutAt b 110
  tManifest := timeoutAt b 111
  tTransfer := timeoutAt b 112
  tExit := timeoutAt b 113
  tSettle := timeoutAt b 114
  tPrint := timeoutAt b 115
  tApply := timeoutAt b 116
  tClaim := max (timeoutAt b 117) (claimFloor (timeoutAt b 113))
  tWait := timeoutAt b 118
  classes := #v[classAt b 120, classAt b 128, classAt b 136, classAt b 144]

/-- The Configuration Loader's judgement of the bytes it read (R188): an image, or none for a rejected block. -/
def loadConfig (bytes : List Byte) : Option Image :=
  let b := wholeBlock bytes
  if sumAgrees b then
    if h : bitsAt b 0 0 4 < 15 then some (imageOf b ⟨bitsAt b 0 0 4, h⟩) else none
  else none

end Sys2Proof.Machine
end

