-- ==== Sys2Proof/Machine/Lane.lean ====
section
/-! DEFINITION. Chapter 11's commands, with LANE_LAMP (R180): start-up by power-on and by RESET (R193), and the judged
configuration block (R188 to R191). -/

namespace Sys2Proof.Machine

/-- The start-up values, with the input pins and the model's own fields kept (R193; log 1). -/
def State.startUp (s : State) (resetPin : Bool) : State :=
  { State.reset with inp := { s.inp with resetPin := resetPin }, free := s.free, pending := s.pending }

/-- POWER_ON_RESET (R193): power-on, or the release of RESET. -/
def execPowerOnReset (s : State) : Answered := .next (s.startUp false)

/-- RESET_ASSERTED (R193): every operation in flight ends, and the lane stands in CONFIG while RESET is held
(log 19). -/
def execResetAsserted (s : State) : Answered := .next (s.startUp true)

/-- The faults whose inputs are found asserted when the lane leaves CONFIG (R191). -/
def State.startFaults (s : State) : List Raise :=
  (if s.inp.estop then [(.estop, none)] else []) ++ (if s.inp.filmLow then [(.filmLow, some 2)] else [])
    ++ (if s.inp.labelLowL || s.inp.labelLowR then [(.labelLow, some 3)] else [])

/-- The round-robin pointer at start-up (R140). -/
def startPointer (mode : Nat) : Source := if mode = 1 then .request else .sequence

/-- The bed link begins to run: BED_STROBE and BED_CLK are driven, and the first frame begins (R50). -/
def BedLink.begin (b : BedLink) : BedLink := { b with slot := 0, driven := true }

/-- The block is accepted: the image is kept, the values that wait for it are set (log 2), the bed link begins to run,
the lane leaves CONFIG for STOPPED, and the faults of R191 are raised. -/
def State.acceptConfig (s : State) (c : Image) : State :=
  let s1 := { s with
    image := some c
    bed := s.bed.begin
    line := { s.line with lastSender := c.station }
    tx := { s.tx with pointer := startPointer c.arbMode } }
  (s1.setLane .stopped).raiseAll s1.startFaults

/-- The last byte of the block has been read, in CONFIG: the block is judged (R188). -/
def State.configRead (s : State) (bytes : List Byte) : State :=
  if s.mon.lane = .config ∧ s.inp.resetPin = false then
    match loadConfig bytes with
    | some c => (s.acceptConfig c).finish
    | none => s.setLane .unconfigured
  else s

/-- CONFIG_BLOCK_READ (R188); outside CONFIG no block is read, and the event is one without effect. -/
def execConfigBlockRead (bytes : List Byte) (s : State) : Answered := .next ((s.configRead bytes).event id)

/-- How long LANE_LAMP keeps its level, by lane state and level; none where it does not change (R180). -/
def lampPeriod (l : LaneState) (on : Bool) : Option Nat :=
  match l with
  | .config | .running => none
  | .unconfigured => some 125
  | .stopped => some (if on then 250 else 1750)
  | .stopping => some 500
  | .fault => some 250

/-- A phase of LANE_LAMP ends: the lamp changes and the next phase begins (R180). -/
def State.lampMoves (s : State) : State :=
  match lampPeriod s.mon.lane s.mon.lamp with
  | some period =>
    s.onExpiry s.mon.lampSince period (fun s => { s with mon := { s.mon with lamp := !s.mon.lamp, lampSince := some s.clock } })
  | none => s

/-- LANE_LAMP_PHASE (R180). -/
def execLaneLampPhase (s : State) : Answered := .next (s.lampMoves.event id)

end Sys2Proof.Machine
end

