-- ==== Sys2Proof/Machine/Line.lean ====
section
/-! DEFINITION. Chapter 7's commands: the waits, line activity, the collision, the gap, the own notice's completion,
and received notices that no block takes. -/

namespace Sys2Proof.Machine

/-! ## The waits and the train (R131, R133, R135) -/

/-- The wait ends with nothing ready: IDLE (R131, R133). -/
def State.idleLine (s : State) : State := { s with line := { s.line with state := .idle, waitSlots := 0 } }

/-- A train begins with the notice of a source, or the line goes IDLE (R131, R133). -/
def State.beginTrain (s : State) (src : Option Source) : State :=
  match src with
  | some src => { s with line := { s.line with trainPos := 0 } }.startNotice src
  | none => s.idleLine

/-- The access wait ends in DEFER on a line without activity (R131). -/
def State.accessEnds (s : State) : State :=
  if s.line.state = .defer ∧ s.line.activity = false then s.beginTrain s.choose else s

/-- ACCESS_WAIT_END (R131). -/
def execAccessWaitEnd (s : State) : Answered := .next (s.event State.accessEnds)

/-- LINE_ACTIVITY_DEFER (R131): another station's line activity begins or ends. -/
def execLineActivityDefer (begins : Bool) (s : State) : Answered :=
  .next (s.event (if begins then State.activityBegins else State.activityEnds))

/-- The source that a train after a backoff starts from: the restart source if it has a notice ready, else the one
chosen (R133). -/
def State.restartChoice (s : State) : Option Source :=
  match s.line.restartSrc with
  | some src => if s.ready src then some src else s.choose
  | none => s.choose

/-- The backoff wait ends in BACKOFF on a line without activity (R133). -/
def State.backoffEnds (s : State) : State :=
  if s.line.state = .backoff ∧ s.line.activity = false then
    { s with line := { s.line with restartSrc := none } }.beginTrain s.restartChoice
  else s

/-- BACKOFF_WAIT_END (R133). -/
def execBackoffWaitEnd (s : State) : Answered := .next (s.event State.backoffEnds)

/-- The inter-notice gap ends in GAP: the next notice of the train, or the train's end (R135). -/
def State.gapEnds (s : State) : State :=
  if s.line.state = .gap then
    match s.choose with
    | some src => if s.line.trainPos < 4 then s.startNotice src else s.endTrain
    | none => s.endTrain
  else s

/-- GAP_END (R135). -/
def execGapEnd (s : State) : Answered := .next (s.event State.gapEnds)

/-! ## The collision and the completion (R132, R136) -/

/-- An aborted notice that is marked for removal leaves its queue; a Claim's reservation goes with it (R138, R157). -/
def State.dropMarked (s : State) (src : Source) : State :=
  if s.line.marked then
    if (s.headNotice src).any Notice.isClaim then (s.removeHead src).releaseFollowUp else s.removeHead src
  else s

/-- The counts of an abort, and BACKOFF with its wait (R132 to R134). -/
def State.countAbort (s : State) (src : Source) : State :=
  { s with line := { s.line.endFlight .backoff with
      retry := satSucc 255 s.line.retry
      congested := s.line.congested || decide (16 ≤ satSucc 255 s.line.retry)
      collisions := satSucc 65535 s.line.collisions
      trainPos := 0, restartSrc := some src, waitSlots := backoffSlots s.own } }

/-- A collision aborts the notice in flight (R132). -/
def State.collide (s : State) : State :=
  match s.line.inFlight with
  | some src => if s.line.state = .send then (s.dropMarked src).countAbort src else s
  | none => s

/-- COLLISION (R132). -/
def execCollision (s : State) : Answered := .next (s.event State.collide)

/-- OWN_NOTICE_COMPLETE (R136): the readback completes whole. -/
def execOwnNoticeComplete (s : State) : Answered := .next (s.event State.ownComplete)

/-! ## Notices that no block takes (R128 to R130) -/

/-- NOTICE_DISCARDED (R128): levels received between a start mark and an end mark that fail a check. Levels that pass
every check are no discarded notice, and nothing happens (log 18). -/
def execNoticeDiscarded (levels : List Bool) (s : State) : Answered :=
  .next (s.event (fun s => if (receiveLevels levels).isNone then s.heardDiscarded else s))

/-- NOTICE_TRUNCATED (R128): an idle gap without an end mark. -/
def execNoticeTruncated (s : State) : Answered := .next (s.event State.heardDiscarded)

/-- PEER_NOTICE_IGNORED (R130): a notice taken whole that no block of this lane takes. -/
def execPeerNoticeIgnored (src : Station) (_dst : BitVec 4) (_kind : Fin 15) (s : State) : Answered :=
  .next (s.event (·.takeNotice src false id))

/-- ADDRESS_CLASH (R129): a notice taken whole with this station's own number, which the station did not send. -/
def execAddressClash (_dst : BitVec 4) (_kind : Fin 15) (s : State) : Answered :=
  .next (s.event (fun s => s.takeNotice s.own true id))

end Sys2Proof.Machine
end

