-- ==== Sys2Proof/Machine/Status.lean ====
section
/-! DEFINITION. Chapter 10's Status Requests: the reply composed in the taking event, in one part or several, joins the
Report queue (R139, R185 to R187, R49). -/

namespace Sys2Proof.Machine

/-- A reply joins the Report queue part by part, or is dropped whole when it does not fit (R139, R185). -/
def State.joinReply (s : State) (dst : Station) (parts : List (List Byte)) : State :=
  if s.tx.report.length + parts.length ≤ 8 then
    { s with tx := { s.tx with report := s.tx.report ++ parts.map (Notice.statusReply dst) } }
  else s

/-- A Status Request is taken: the reply is composed from the state as it stands, and addressed to the request's
source (R185). -/
def State.statusRequest (s : State) (src : Station) (dst : BitVec 4) (compose : State → List (List Byte)) : State :=
  s.event (·.takeNotice src (s.addressed dst) (fun s => s.joinReply src (compose s)))

/-- An INVALID reply: one part with a string of zero bytes (R185, R200). -/
def invalidReply (subject index : Byte) : List (List Byte) := replyParts subject index .invalid 1 []

/-- The answer of a position in a list: OK where an entry stands, else NONE (R185). -/
def positionAnswer {α : Type} : Option α → Answer
  | some _ => .ok
  | none => .none

/-- The LANE reply (R186). -/
def laneReply (index : Byte) (s : State) : List (List Byte) := replyParts 0 index .ok 1 (laneString s)

/-- The COUNTERS reply (R186). -/
def countersReply (index : Byte) (s : State) : List (List Byte) := replyParts 5 index .ok 1 (countersString s)

/-- The FAULTS reply (R186). -/
def faultsReply (index : Byte) (s : State) : List (List Byte) :=
  if index.toNat < 8 then
    replyParts 2 index (positionAnswer s.mon.faults[index.toNat]?) 1 (faultsString s s.mon.faults[index.toNat]?)
  else invalidReply 2 index

/-- The VIEW reply (R186). -/
def viewReply (index : Byte) (s : State) : List (List Byte) :=
  if index.toNat < 16 then
    replyParts 3 index (positionAnswer s.view.entries[index.toNat]?) 1 (viewString s s.view.entries[index.toNat]?)
  else invalidReply 3 index

/-- The PROBE reply: index 4 × set + way (R49, R198). -/
def probeReply (index : Byte) (s : State) : List (List Byte) :=
  if h : index.toNat < 64 then
    let c := s.cacheSet ⟨index.toNat / 4, by omega⟩
    replyParts 4 index .ok 2 (probeString c (c.ways[index.toNat % 4]'(Nat.mod_lt _ (by decide))))
  else invalidReply 4 index

/-- The ZONE reply: three parts for TABLE, two for the others and the exit slot (R185, R187). -/
def zoneReply (index : Byte) (s : State) : List (List Byte) :=
  if h : index.toNat < 9 then replyParts 1 index .ok (if index.toNat = 2 then 3 else 2) (zoneString s ⟨index.toNat, h⟩)
  else if index.toNat = 9 then replyParts 1 index .ok 2 (exitSlotString s)
  else invalidReply 1 index

/-- STATUS_LANE (R186). -/
def execStatusLane (src : Station) (dst : BitVec 4) (index : Byte) (s : State) : Answered :=
  .next (s.statusRequest src dst (laneReply index))

/-- STATUS_COUNTERS (R186). -/
def execStatusCounters (src : Station) (dst : BitVec 4) (index : Byte) (s : State) : Answered :=
  .next (s.statusRequest src dst (countersReply index))

/-- STATUS_FAULTS (R186). -/
def execStatusFaults (src : Station) (dst : BitVec 4) (index : Byte) (s : State) : Answered :=
  .next (s.statusRequest src dst (faultsReply index))

/-- STATUS_VIEW (R186). -/
def execStatusView (src : Station) (dst : BitVec 4) (index : Byte) (s : State) : Answered :=
  .next (s.statusRequest src dst (viewReply index))

/-- STATUS_PROBE (R49, R186). -/
def execStatusProbe (src : Station) (dst : BitVec 4) (index : Byte) (s : State) : Answered :=
  .next (s.statusRequest src dst (probeReply index))

/-- STATUS_ZONE (R187). -/
def execStatusZone (src : Station) (dst : BitVec 4) (index : Byte) (s : State) : Answered :=
  .next (s.statusRequest src dst (zoneReply index))

/-- The reply to a subject that no row above names; an assigned subject has its own command (log 29). -/
def unassignedReply (subject index : Byte) (_ : State) : List (List Byte) := invalidReply subject index

/-- STATUS_REQUEST_INVALID (R185): a subject that is not assigned is answered INVALID. -/
def execStatusRequestInvalid (src : Station) (dst : BitVec 4) (subject index : Byte) (s : State) : Answered :=
  .next (s.statusRequest src dst (unassignedReply subject index))

end Sys2Proof.Machine
end

