-- ==== Sys2Proof/Machine/Weigh.lean ====
section
/-! DEFINITION. Chapter 3's commands, with the film force of chapter 5.7: the judgement of a slot, the completion of
a frame, the weighing start and the T_settle expiry. -/

namespace Sys2Proof.Machine

/-! ## The Bed Link (R51 to R57) -/

/-- A slot as read: the 24-bit sample first, then the valid bit, then the saturated bit; the first bit is the most
significant (R50, R51). -/
def judgeSlot (bits : BitVec 26) : Judgement :=
  if bits = BitVec.allOnes 26 ∨ bits.getLsbD 1 = false then .missed
  else if bits.getLsbD 0 then .saturated
  else .good

/-- The sample bits of a slot as read (R50). -/
def slotSample (bits : BitVec 26) : BitVec 24 := bits.extractLsb' 2 24

/-- How many slots of a frame are judged: five, or four with slot 4 disabled (R50, R53). -/
def State.slotsJudged (s : State) : Nat := if s.cfg.slot4 then 5 else 4

/-- The slot is the one whose judgement is due: the next of the frame in progress, and an enabled one (R50, R53). -/
def State.slotDue (s : State) (i : Fin 5) : Bool := s.bed.slot.val == i.val && decide (i.val < s.slotsJudged)

/-- Every slot of the frame in progress that is to be judged has been, so that the frame can complete (R54). -/
def State.frameReady (s : State) : Bool := s.bed.slot.val == s.slotsJudged

/-- The frame in progress goes on to the slot after `i` (R50). -/
def BedLink.pass (b : BedLink) (i : Fin 5) : BedLink := { b with slot := i.succ }

/-- The next frame begins, with no slot judged yet (R50). -/
def BedLink.nextFrame (b : BedLink) : BedLink := { b with judged := Vector.replicate 5 none, slot := 0 }

/-- A missed slot keeps its held value, and its miss count increments (R52, R55). -/
def BedLink.miss1 (b : BedLink) (i : Fin 5) : BedLink :=
  { b with
    miss := b.miss.set i.val (satSucc 255 b.miss[i.val]) i.isLt
    judged := b.judged.set i.val (some .missed) i.isLt }

/-- A slot received valid: its sample is held, its miss count returns to 0 (R52, R55). -/
def BedLink.receive (b : BedLink) (i : Fin 5) (sample : BitVec 24) (j : Judgement) : BedLink :=
  { b with
    held := b.held.set i.val sample i.isLt
    miss := b.miss.set i.val 0 i.isLt
    judged := b.judged.set i.val (some j) i.isLt }

/-- CELL_LOST with BED for a corner slot, FORCE_LOST with TABLE for slot 4 (R56, R57). -/
def lostFault (i : Fin 5) : Raise := if i = 4 then (.forceLost, some 2) else (.cellLost, some 1)

/-- The miss counts of all four corner slots stand at 0 (R56). -/
def BedLink.cornersValid (b : BedLink) : Bool := b.miss[0] == 0 && b.miss[1] == 0 && b.miss[2] == 0 && b.miss[3] == 0

/-- The cause of a lost cell is gone: FORCE_LOST with slot 4's valid judgement, CELL_LOST once every corner's count is
0 (R56, R57). -/
def State.judgeLostCause (s : State) (i : Fin 5) : State :=
  if i = 4 then s.causeGone .forceLost
  else if s.bed.cornersValid then s.causeGone .cellLost
  else s

/-- The slot in turn is judged (R51); a slot out of its turn and a disabled slot 4 are not (R53; log 17). -/
def State.slotJudged (s : State) (i : Fin 5) (bits : BitVec 26) : State :=
  if s.slotDue i then
    match judgeSlot bits with
    | .missed =>
      let s1 := { s with bed := (s.bed.miss1 i).pass i }
      if s.missCount i = 63 then s1.raise (lostFault i).1 (lostFault i).2 else s1
    | j => { s with bed := (s.bed.receive i (slotSample bits) j).pass i }.judgeLostCause i
  else s

/-- BED_SLOT_JUDGED (R51): a slot's 26 data bits have been read. -/
def execBedSlotJudged (slot : Fin 5) (bits : BitVec 26) (s : State) : Answered := .next (s.event (·.slotJudged slot bits))

/-! ## The sample set and its calibration (R54, R58) -/

/-- One of the four corner slots was judged so in this frame (R54). -/
def BedLink.cornerMark (b : BedLink) (j : Judgement) : Bool :=
  b.judged[0] == some j || b.judged[1] == some j || b.judged[2] == some j || b.judged[3] == some j

/-- The set is clean: it carries neither mark (R54). -/
def BedLink.clean (b : BedLink) : Bool := !b.cornerMark .missed && !b.cornerMark .saturated

/-- One corner calibrated: floor((c - z) × g / 65536) (R58). -/
def calibrate (c : BitVec 24) (z g : Int) : Int := ((c.toInt - z) * g).fdiv 65536

/-- The four calibrated corner weights (R58). -/
def State.calibrated (s : State) : Corners :=
  ⟨calibrate s.bed.held[0] s.cfg.zeros.c0 s.cfg.gains.c0, calibrate s.bed.held[1] s.cfg.zeros.c1 s.cfg.gains.c1,
    calibrate s.bed.held[2] s.cfg.zeros.c2 s.cfg.gains.c2, calibrate s.bed.held[3] s.cfg.zeros.c3 s.cfg.gains.c3⟩

/-! ## The settle window (R59 to R61) -/

/-- The window length W (R59). -/
def State.windowLength (s : State) : Nat := 8 * 2 ^ s.cfg.wCode

/-- A set joins at the tail and adds its values to the sums (R59). -/
def WeighEngine.join (w : WeighEngine) (x : Sample) : WeighEngine :=
  { w with window := w.window ++ [x], sumW := w.sumW.add x.w, sumG := w.sumG + x.g }

/-- The entry at the head leaves and its values are subtracted (R59). -/
def WeighEngine.dropHead (w : WeighEngine) : WeighEngine :=
  match w.window with
  | [] => w
  | x :: rest => { w with window := rest, sumW := w.sumW.sub x.w, sumG := w.sumG - x.g }

/-- An accepted set joins; a window that already held W entries loses its head (R60). -/
def State.acceptSet (s : State) : State :=
  let x : Sample := ⟨s.calibrated, s.calibrated.total⟩
  let w := s.weigh.join x
  { s with weigh := if s.windowLength < w.window.length then w.dropHead else w }

/-- Every two gross values of the window differ by at most S: the largest minus the smallest is at most S (R61). -/
def withinSpan (span : Nat) (l : List Sample) : Bool := l.all (fun a => l.all (fun b => decide (a.g - b.g ≤ span)))

/-- The window is stable (R61). -/
def State.windowStable (s : State) : Bool :=
  s.weigh.window.length == s.windowLength && withinSpan s.cfg.span s.weigh.window

/-- The means of the window, rounded toward minus infinity (R61). -/
def State.windowMeans (s : State) : Settlement :=
  let n : Int := s.windowLength
  ⟨⟨s.weigh.sumW.c0.fdiv n, s.weigh.sumW.c1.fdiv n, s.weigh.sumW.c2.fdiv n, s.weigh.sumW.c3.fdiv n⟩, s.weigh.sumG.fdiv n⟩

/-- The first stable window settles a weighing (R64). -/
def State.settleWeighing (s : State) : State :=
  { s with weigh := { s.weigh with state := .settled, settled := some s.windowMeans, tSettle := none } }

/-- An auto-zero comparison: Zb is set, or BED_NOT_ZERO is to be raised; the window is emptied (R67). -/
def State.autoZero (s : State) : State × List Raise :=
  let g := s.windowMeans.gross
  if g.natAbs ≤ s.cfg.zeroLimit then ({ s with weigh := { s.weigh with zb := g } }.emptyWindow, [])
  else (s.emptyWindow, [(.bedNotZero, some 1)])

/-- A stable window is used (R64, R67). -/
def State.useStable (s : State) : State × List Raise :=
  if s.zone zBed = .empty then s.autoZero
  else if s.weigh.state = .settling then (s.settleWeighing, [])
  else (s, [])

/-- The Weigh Engine takes the sample set by R60's first case that applies. -/
def State.takeSet (s : State) : State × List Raise :=
  if s.zone zBed = .arriving ∨ s.zone zBed = .departing then (s.emptyWindow, [])
  else if s.bed.clean = false then (s.emptyWindow, [])
  else
    let s1 := s.acceptSet
    if s1.windowStable then s1.useStable else (s1, [])

/-! ## Film force (R105 to R107) -/

/-- The wrap states in which film force is compared (R105). -/
def WrapState.monitorsForce : WrapState → Bool
  | .bottom | .rise | .top | .descend => true
  | _ => false

/-- The film force of a slot 4 value, in newtons (R105). -/
def filmForce (gain : Nat) (v : BitVec 24) : Int := (v.toInt * gain).fdiv 65536

/-- A class finds the force high; with a high level of 65535 it never does, however large the force (R107). -/
def findsHigh (c : WrapClass) (force : Int) : Bool := c.highLevel != 65535 && decide ((c.highLevel : Int) < force)

/-- The run counts of a force, and the faults at a count of 8 (R105 to R107). DESIGN CHOICE (log 31): a class whose break
level exceeds its high level has forces that are both below the break level and above the high level; R105 gives the two
rows no order, and such a force counts as below the break level. -/
def State.countForce (s : State) (force : Int) : State × List Raise :=
  if force < s.wrapClass.breakLevel then
    ({ s with wrap := { s.wrap with lowRun := satSucc 8 s.wrap.lowRun, highRun := 0 } },
      if s.wrap.lowRun = 7 then [(.filmBreak, some 2)] else [])
  else if findsHigh s.wrapClass force then
    if 7 ≤ s.wrap.highRun then ({ s with wrap := { s.wrap with lowRun := 0, highRun := 0 } }, [(.forceHigh, some 2)])
    else ({ s with wrap := { s.wrap with lowRun := 0, highRun := s.wrap.highRun + 1 } }, [])
  else ({ s with wrap := { s.wrap with lowRun := 0, highRun := 0 } }, [])

/-- The Wrap Controller takes slot 4's value: compared when slot 4 is enabled, the value is not held, and the wrap
state monitors force (R53, R105). DESIGN CHOICE (log 35): a frame that completes in the instant of an abort, and after it,
counts nothing, so that it raises no fault. -/
def State.takeForce (s : State) : State × List Raise :=
  if s.cfg.slot4 = true ∧ s.bed.judged[4] ≠ some .missed ∧ s.wrap.state.monitorsForce = true then
    s.countForce (filmForce s.cfg.forceGain s.bed.held[4])
  else (s, [])

/-- A frame completes: both hand-overs, then the faults they raise, and the next frame begins (R50, R54). -/
def State.endFrame (s : State) : State :=
  let (s1, r1) := s.takeSet
  let (s2, r2) := s1.takeForce
  { s2 with bed := s2.bed.nextFrame }.raiseAll (r1 ++ r2)

/-- A frame whose slots have been judged completes; before that there is no frame completion (R54; log 17). -/
def State.frameComplete (s : State) : State := s.when s.frameReady State.endFrame

/-- BED_FRAME_COMPLETE (R54, R60, R67, R105). -/
def execBedFrameComplete (s : State) : Answered := .next (s.event State.frameComplete)

/-! ## Weighing (R62, R65) -/

/-- WEIGHING_START (R62): the weighing of the BED record starts if nothing blocks it. -/
def execWeighingStart (s : State) : Answered := .next (s.event (fun s => s.when s.canWeigh State.doWeigh))

/-- T_settle expires in SETTLING: the BED record gets UNSETTLED, the state is EXPIRED (R65). -/
def State.settleExpired (s : State) : State :=
  if s.weigh.state = .settling then
    let s1 := s.addReason zBed .unsettled
    { s1 with weigh := { s1.weigh with state := .expired, settled := none, tSettle := none } }
  else s

/-- SETTLE_TIMEOUT (R65): T_settle expires. -/
def execSettleTimeout (s : State) : Answered :=
  .next (s.event (fun s => s.onExpiry s.weigh.tSettle (tenths s.cfg.tSettle) State.settleExpired))

end Sys2Proof.Machine
end

