-- ==== Sys2Proof/Machine/Wrap.lean ====
section
/-! DEFINITION. Chapter 5's commands: encoder pulses, the mast, the top eye, MAST_HOME, the wrap start, the cut time
and FILM_LOW. -/

namespace Sys2Proof.Machine

/-! ## The turntable (R86 to R88) -/

/-- A turntable pulse: the angle counts up, the stall timer of a driven table restarts (R86, R88); the angle compare
is judged (R90). -/
def State.tablePulse (s : State) : State :=
  { s with wrap := { s.wrap with angle := s.wrap.angle + 1, stall := s.wrap.stall.map (fun _ => s.clock) } }.judgeAngle

/-- TURNTABLE_PULSE (R86). -/
def execTurntablePulse (s : State) : Answered := .next (s.event State.tablePulse)

/-- The slip check: the capture differs from counts_per_rev by more than floor(counts_per_rev / 50) (R87). -/
def slips (countsPerRev : Nat) (a : BitVec 16) : Bool :=
  decide (countsPerRev / 50 < ((a.toNat : Int) - (countsPerRev : Int)).natAbs)

/-- The capture just taken is checked for slip: the wrap turns, and it is not the first capture after wrap start
(R87). DESIGN CHOICE (log 35): an index in the instant of an abort, and after it, is not checked. -/
def State.slipped (s : State) : Bool := s.wrap.state.turning && !s.wrap.first && slips s.cfg.countsPerRev s.wrap.angle

/-- An index pulse in PARK: the cleared counter may match; else the second index after the entry ends PARK (R102). -/
def State.parkIndex (s : State) : State :=
  if s.wrap.angleCmp.hits s.wrap.angle then s.enterCut
  else if 1 ≤ s.wrap.parkIndexes then s.enterCut
  else { s with wrap := { s.wrap with parkIndexes := s.wrap.parkIndexes + 1 } }

/-- What an index pulse means to the wrap state (R97, R100, R102). -/
def State.actOnIndex (s : State) : State :=
  match s.wrap.state with
  | .bottom => s.judgeBottom
  | .top => s.judgeTop
  | .park => s.parkIndex
  | _ => s

/-- An index pulse: the capture, the revolution count, the cleared angle, the slip check, and the wrap state's
judgement, in one event (R86, R87). -/
def State.tableIndex (s : State) : State :=
  let s1 := if s.slipped then s.raise .turntableSlip (some 2) else s
  { s1 with wrap := { s1.wrap with
      angleCapture := some s.wrap.angle, rev := satSucc 255 s.wrap.rev, angle := 0
      first := s.wrap.first && !s.wrap.state.turning } }.actOnIndex

/-- TURNTABLE_INDEX (R86). -/
def execTurntableIndex (s : State) : Answered := .next (s.event State.tableIndex)

/-- An expiry of the stall timer is to be taken at the clock's value (R88, R109; log 30). -/
def State.stallDue (s : State) : Bool := dueAt s.clock stallPeriod s.wrap.stall || s.wrap.stallDue == some s.clock

/-- TURNTABLE_STALL is raised (R88), and the stall timer's expiry is then taken. -/
def State.tableStalls (s : State) : State :=
  let s1 := s.raise .turntableStall (some 2)
  { s1 with wrap := { s1.wrap with stallDue := none } }

/-- The expiry of the stall timer: of a running one, or of one that an abort stopped in this very instant (R109). -/
def State.stallTimeout (s : State) : State :=
  if s.wrap.stallDue = some s.clock then s.tableStalls else s.onExpiry s.wrap.stall stallPeriod State.tableStalls

/-- TURNTABLE_STALL_TIMEOUT (R88): the stall timer reaches 2.0 s. -/
def execTurntableStallTimeout (s : State) : Answered := .next (s.event State.stallTimeout)

/-! ## The mast (R89 to R93, R99) -/

/-- A step beyond the counter's range: the homed flag is cleared, a homing ends, MAST_LOST is raised (R89, R93). -/
def State.mastBeyond (s : State) : State :=
  let s1 := { s with wrap := { s.wrap with homed := false } }
  (if s.wrap.state = .homing then s1.stopWrap else s1).raise .mastLost (some 2)

/-- A mast step (R89); the mast compare is judged at each change (R90). -/
def State.mastMoves (s : State) (up : Bool) : State :=
  if up then
    if s.wrap.mast = 65535#16 then s.mastBeyond
    else { s with wrap := { s.wrap with mast := s.wrap.mast + 1 } }.judgeMast
  else
    if s.wrap.mast = 0#16 then s.mastBeyond
    else { s with wrap := { s.wrap with mast := s.wrap.mast - 1 } }.judgeMast

/-- MAST_STEP (R89). -/
def execMastStep (up : Bool) (s : State) : Answered := .next (s.event (·.mastMoves up))

/-- An edge of the top eye; in RISE it moves the mast compare's target (R99). -/
def State.topEyeMoves (s : State) (blocked : Bool) : State :=
  if s.wrap.state = .rise then
    if blocked then { s with wrap := { s.wrap with capture := none, mastCmp := Compare.armAt s.cfg.mastMax } }.judgeMast
    else
      { s with wrap := { s.wrap with
          capture := some s.wrap.mast, mastCmp := Compare.armAt (s.riseTarget s.wrap.mast) } }.judgeMast
  else s

/-- TOP_EYE_EDGE (R99): the top eye takes a level. -/
def execTopEyeEdge (blocked : Bool) (s : State) : Answered :=
  .next (if s.inp.topEye = blocked then s.event id
    else { s with inp := { s.inp with topEye := blocked } }.event (·.topEyeMoves blocked))

/-- MAST_HOME goes asserted; in HOMING that ends the homing (R93). -/
def State.mastHomeRises (s : State) : State := if s.wrap.state = .homing then s.homeFound else s

/-- MAST_HOME_ASSERTED (R93): the MAST_HOME input takes a level (log 6). -/
def execMastHomeAsserted (asserted : Bool) (s : State) : Answered :=
  .next (if s.inp.mastHome = asserted then s.event id
    else { s with inp := { s.inp with mastHome := asserted } }.event (if asserted then State.mastHomeRises else id))

/-! ## The wrap's start and end, and the film roll -/

/-- WRAP_START (R95): the wrap of the TABLE record starts if R95 allows it. -/
def execWrapStart (s : State) : Answered := .next (s.event (fun s => s.when s.canWrap State.doWrap))

/-- The cut time ends: CUTTER off, DONE, the record's wrap outcome DONE, TABLE READY (R103). -/
def State.cutDone (s : State) : State :=
  if s.wrap.state = .cut then
    ({ s with wrap := { s.wrap with state := .done, cutter := false, cutSince := none } }.updPallet zTable
      (fun p => { p with wrap := .done })).setZone zTable .ready
  else s

/-- CUT_TIME_END (R103): the cut time, in units of 10 ms, has been counted. -/
def execCutTimeEnd (s : State) : Answered :=
  .next (s.event (fun s => s.onExpiry s.wrap.cutSince (10 * s.cfg.cutTime) State.cutDone))

/-- FILM_LOW changes: an assertion raises FILM_LOW, a deassertion takes its cause away (R108). -/
def State.filmLowMoves (s : State) (asserted : Bool) : State :=
  if asserted then s.raise .filmLow (some 2) else s.causeGone .filmLow

/-- FILM_LOW_INPUT (R108): the FILM_LOW input takes a level. -/
def execFilmLowInput (asserted : Bool) (s : State) : Answered :=
  .next (if s.inp.filmLow = asserted then s.event id
    else { s with inp := { s.inp with filmLow := asserted } }.event (·.filmLowMoves asserted))

end Sys2Proof.Machine
end

