-- ==== Sys2Proof/Machine/Dispatch.lean ====
section
/-! DEFINITION. The meaning of every command: one arm for each constructor of Instr, each one direct call. -/

namespace Sys2Proof.Machine

/-- The effect of a command on everything but the queue. -/
def exec (i : Instr) (s : State) : Host.Outcome State Fault Refusal :=
  match i with
  | .powerOnReset => Sys2Proof.Machine.execPowerOnReset s
  | .configBlockRead bytes => Sys2Proof.Machine.execConfigBlockRead bytes s
  | .laneLampPhase => Sys2Proof.Machine.execLaneLampPhase s
  | .inArrival => Sys2Proof.Machine.execInArrival s
  | .eyeEdgeNoEffect eye blocked => Sys2Proof.Machine.execEyeEdgeNoEffect eye blocked s
  | .transferStart z => Sys2Proof.Machine.execTransferStart z s
  | .transferComplete z => Sys2Proof.Machine.execTransferComplete z s
  | .transferTimeout z => Sys2Proof.Machine.execTransferTimeout z s
  | .rejectTransferStart rejectFull => Sys2Proof.Machine.execRejectTransferStart rejectFull s
  | .rejectTransferComplete => Sys2Proof.Machine.execRejectTransferComplete s
  | .rejectTransferTimeout => Sys2Proof.Machine.execRejectTransferTimeout s
  | .exitStart mergeClear => Sys2Proof.Machine.execExitStart mergeClear s
  | .exitComplete => Sys2Proof.Machine.execExitComplete s
  | .exitTimeout => Sys2Proof.Machine.execExitTimeout s
  | .tagReply reply => Sys2Proof.Machine.execTagReply reply s
  | .tagReadTimeout => Sys2Proof.Machine.execTagReadTimeout s
  | .manifestRequestJoin => Sys2Proof.Machine.execManifestRequestJoin s
  | .manifestTimeout tag => Sys2Proof.Machine.execManifestTimeout tag s
  | .manifest src dst m => Sys2Proof.Machine.execManifest src dst m s
  | .manifestVoid src dst ident => Sys2Proof.Machine.execManifestVoid src dst ident s
  | .bedFrameComplete => Sys2Proof.Machine.execBedFrameComplete s
  | .weighingStart => Sys2Proof.Machine.execWeighingStart s
  | .settleTimeout => Sys2Proof.Machine.execSettleTimeout s
  | .turntablePulse => Sys2Proof.Machine.execTurntablePulse s
  | .turntableIndex => Sys2Proof.Machine.execTurntableIndex s
  | .turntableStallTimeout => Sys2Proof.Machine.execTurntableStallTimeout s
  | .mastStep up => Sys2Proof.Machine.execMastStep up s
  | .topEyeEdge blocked => Sys2Proof.Machine.execTopEyeEdge blocked s
  | .mastHomeAsserted asserted => Sys2Proof.Machine.execMastHomeAsserted asserted s
  | .wrapStart => Sys2Proof.Machine.execWrapStart s
  | .cutTimeEnd => Sys2Proof.Machine.execCutTimeEnd s
  | .filmLowInput asserted => Sys2Proof.Machine.execFilmLowInput asserted s
  | .labelCompose => Sys2Proof.Machine.execLabelCompose s
  | .labelAnswer side answer => Sys2Proof.Machine.execLabelAnswer side answer s
  | .printTimeout => Sys2Proof.Machine.execPrintTimeout s
  | .labelMarkEdge blocked => Sys2Proof.Machine.execLabelMarkEdge blocked s
  | .conveyorPulse => Sys2Proof.Machine.execConveyorPulse s
  | .applyPulseEnd => Sys2Proof.Machine.execApplyPulseEnd s
  | .appliedConfirmation side asserted => Sys2Proof.Machine.execAppliedConfirmation side asserted s
  | .applyTimeout => Sys2Proof.Machine.execApplyTimeout s
  | .labelLowInput side asserted => Sys2Proof.Machine.execLabelLowInput side asserted s
  | .claim src dst load seq forced ident => Sys2Proof.Machine.execClaim src dst load seq forced ident s
  | .released src dst load seq => Sys2Proof.Machine.execReleased src dst load seq s
  | .abandon src dst load seq => Sys2Proof.Machine.execAbandon src dst load seq s
  | .skip src dst load next => Sys2Proof.Machine.execSkip src dst load next s
  | .loadClose src dst load => Sys2Proof.Machine.execLoadClose src dst load s
  | .claimTimeout load => Sys2Proof.Machine.execClaimTimeout load s
  | .claimQueue mergeClear => Sys2Proof.Machine.execClaimQueue mergeClear s
  | .stallTimeout => Sys2Proof.Machine.execStallTimeout s
  | .start src dst => Sys2Proof.Machine.execStart src dst s
  | .stop src dst => Sys2Proof.Machine.execStop src dst s
  | .ack origin => Sys2Proof.Machine.execAck origin s
  | .forceRelease src dst => Sys2Proof.Machine.execForceRelease src dst s
  | .purge src dst zone => Sys2Proof.Machine.execPurge src dst zone s
  | .restart origin => Sys2Proof.Machine.execRestart origin s
  | .laneCommandUnassigned src dst code => Sys2Proof.Machine.execLaneCommandUnassigned src dst code s
  | .estopInput asserted => Sys2Proof.Machine.execEstopInput asserted s
  | .runOnInput asserted => Sys2Proof.Machine.execRunOnInput asserted s
  | .statusLane src dst index => Sys2Proof.Machine.execStatusLane src dst index s
  | .statusCounters src dst index => Sys2Proof.Machine.execStatusCounters src dst index s
  | .statusFaults src dst index => Sys2Proof.Machine.execStatusFaults src dst index s
  | .statusView src dst index => Sys2Proof.Machine.execStatusView src dst index s
  | .statusProbe src dst index => Sys2Proof.Machine.execStatusProbe src dst index s
  | .statusZone src dst index => Sys2Proof.Machine.execStatusZone src dst index s
  | .accessWaitEnd => Sys2Proof.Machine.execAccessWaitEnd s
  | .lineActivityDefer begins => Sys2Proof.Machine.execLineActivityDefer begins s
  | .collision => Sys2Proof.Machine.execCollision s
  | .backoffWaitEnd => Sys2Proof.Machine.execBackoffWaitEnd s
  | .gapEnd => Sys2Proof.Machine.execGapEnd s
  | .ownNoticeComplete => Sys2Proof.Machine.execOwnNoticeComplete s
  | .noticeDiscarded levels => Sys2Proof.Machine.execNoticeDiscarded levels s
  | .noticeTruncated => Sys2Proof.Machine.execNoticeTruncated s
  | .peerNoticeIgnored src dst kind => Sys2Proof.Machine.execPeerNoticeIgnored src dst kind s
  | .addressClash dst kind => Sys2Proof.Machine.execAddressClash dst kind s
  | .resetAsserted => Sys2Proof.Machine.execResetAsserted s
  | .bedSlotJudged slot bits => Sys2Proof.Machine.execBedSlotJudged slot bits s
  | .statusRequestInvalid src dst subject index => Sys2Proof.Machine.execStatusRequestInvalid src dst subject index s

end Sys2Proof.Machine
end

