-- ==== Sys2Proof/Machine/Tick.lean ====
section
/-! DEFINITION. The Lane Clock's tick (R192): what a step does when no command waits (log 3). The clock advances by one
millisecond, and each timer that has counted its period expires, by the very command of its expiry. -/

namespace Sys2Proof.Machine

/-- The next state of a command; every command answers one. -/
def State.after (s : State) (i : Instr) : State :=
  match exec i s with
  | .next t => t
  | .fault _ => s
  | .refused _ => s

/-- A command if the condition holds. -/
def commandIf (due : Bool) (i : Instr) : List Instr := if due then [i] else []

/-- A command if a timer is due. -/
def dueCommand (now : Ms) (timer : Option Ms) (period : Nat) (i : Instr) : List Instr := commandIf (dueAt now period timer) i

/-- The expiries that the lane's motions and works are due for (R13, R18, R21, R30, R65, R88, R103). -/
def State.dueMotions (s : State) : List Instr :=
  ([0, 1, 2, 3, 4, 5, 6, 7] : List (Fin 8)).flatMap
      (fun z => commandIf ((s.transfer z).due s.clock (tenths s.cfg.tTransfer)) (.transferTimeout z))
    ++ commandIf (s.seq.reject.due s.clock (tenths s.cfg.tTransfer)) .rejectTransferTimeout
    ++ commandIf (s.seq.exit.due s.clock (tenths s.cfg.tExit)) .exitTimeout
    ++ dueCommand s.clock s.read.tRead (tenths s.cfg.tRead) .tagReadTimeout
    ++ dueCommand s.clock s.weigh.tSettle (tenths s.cfg.tSettle) .settleTimeout
    ++ commandIf s.stallDue .turntableStallTimeout
    ++ dueCommand s.clock s.wrap.cutSince (10 * s.cfg.cutTime) .cutTimeEnd

/-- The expiries of the requests, the jobs, the claims, the stall and the lamp (R43, R118, R121, R122, R152, R163,
R180). -/
def State.dueOthers (s : State) : List Instr :=
  s.tracker.flatMap (fun e => dueCommand s.clock e.tManifest (tenths s.cfg.tManifest) (.manifestTimeout e.tag))
    ++ dueCommand s.clock s.printTimer (tenths s.cfg.tPrint) .printTimeout
    ++ dueCommand s.clock s.label.pulse 100 .applyPulseEnd
    ++ dueCommand s.clock s.applyTimer (tenths s.cfg.tApply) .applyTimeout
    ++ s.view.entries.flatMap
      (fun e => dueCommand s.clock (e.claim.map (·.since)) (seconds s.cfg.tClaim) (.claimTimeout e.load))
    ++ dueCommand s.clock s.rel.stall (seconds s.cfg.tWait) .stallTimeout
    ++ dueCommand s.clock s.mon.lampSince ((lampPeriod s.mon.lane s.mon.lamp).getD (2 ^ 32)) .laneLampPhase

/-- Every expiry due at the clock's value. Those of the lane's blocks do not happen in CONFIG and UNCONFIGURED, whose
timers are stopped. -/
def State.dueCommands (s : State) : List Instr := s.dueMotions ++ s.dueOthers

/-- One expiry is taken, unless one taken before it in the same instant has stopped or restarted its timer. -/
def State.expire (s : State) (i : Instr) : State := if i ∈ s.dueCommands then s.after i else s

/-- The order in which expiries of one instant are taken is open (00_scope 6.5; log 8). -/
def State.expireAll (s : State) : State :=
  (eitherOrder s.free s.dueCommands).foldl State.expire
    { s with free := if s.dueCommands.length ≤ 1 then s.free else s.free + s.dueCommands.length }

/-- One millisecond passes; while RESET is held the clock stays 0 (R193; log 19). -/
def State.tick (s : State) : State := if s.inp.resetPin then s else { s with clock := s.clock + 1 }.expireAll

end Sys2Proof.Machine
end

