-- ==== Sys2Proof/Safety.lean ====
section
/-! DEFINITION. What claims are stated in: the invariants of a run, the state that no start writes, and the events
that begin a motion. -/

namespace Sys2Proof.Safety

open Machine

/-! ## Starts (log 5) -/

/-- No start that the rules make at the first event in which its conditions hold is left waiting (R10, R11, R17, R62,
R94, R95, R104, R116, R117, R119, R155, R158, R164). -/
def noneWaiting (s : State) : Prop :=
  s.canWrapIdle = false ∧ s.canBedWork = false ∧ s.canWeigh = false ∧ s.canSkip = false ∧ s.canWrap = false
    ∧ s.canGiveUp = false ∧ s.canDecide = false ∧ s.canCompose = false ∧ s.canLabelWork = false
    ∧ (∀ z, s.canTransfer z = false) ∧ s.canClearForce = false ∧ s.canReject = false ∧ s.canClaim = false
    ∧ s.canExit = false

/-- The two states agree on every part that no start writes. -/
def startsKeep (s t : State) : Prop :=
  t.clock = s.clock ∧ t.image = s.image ∧ t.inp = s.inp ∧ t.read = s.read ∧ t.cache = s.cache ∧ t.bed = s.bed
    ∧ t.view = s.view ∧ t.ring = s.ring ∧ t.pending = s.pending
    ∧ t.mon.faults = s.mon.faults ∧ t.mon.overflow = s.mon.overflow ∧ t.mon.last = s.mon.last
    ∧ t.tx.report = s.tx.report ∧ t.tx.pointer = s.tx.pointer
    ∧ t.track.exitSlot = s.track.exitSlot ∧ t.track.tagCounter = s.track.tagCounter ∧ t.track.issued = s.track.issued
    ∧ t.out.tagTx = s.out.tagTx ∧ t.weigh.zb = s.weigh.zb ∧ t.label.labelJob = s.label.labelJob
    ∧ t.wrap.mast = s.wrap.mast ∧ t.wrap.homed = s.wrap.homed ∧ t.wrap.conveyor = s.wrap.conveyor
    ∧ t.wrap.angleCapture = s.wrap.angleCapture
    ∧ (t.wrap.stallDue = s.wrap.stallDue ∨ t.wrap.stallDue = none)
    ∧ t.line = { s.line with state := t.line.state, waitSlots := t.line.waitSlots }

/-! ## Invariants -/

/-- The drive, EXIT and REJECT outputs and the motion count follow the motions in progress (R2, R168); BED_STROBE and
BED_CLK are driven in the lane states in which the bed link runs (R50). -/
def outputsFollow (s : State) : Prop :=
  s.out.zoneDrive = drives s.seq ∧ s.out.exitOut = s.seq.exit.isRunning ∧ s.out.rejectOut = s.seq.reject.isRunning
    ∧ s.mon.motions = s.motionsInProgress ∧ s.bed.driven = s.working

/-- CARRIAGE_UP is on only in RISE, CARRIAGE_DOWN only in START, DESCEND and HOMING, so never both (R91); TURNTABLE
and an open clamp only from START to PARK (R96, R103, R112); CUTTER only in CUT (R103). -/
def wrapOutputsFit (s : State) : Prop :=
  (s.wrap.carriageUp = true → s.wrap.state = .rise)
    ∧ (s.wrap.carriageDown = true → s.wrap.state = .start ∨ s.wrap.state = .descend ∨ s.wrap.state = .homing)
    ∧ (s.wrap.turntable = true → s.wrap.state.turning = true)
    ∧ (s.wrap.filmClamp = true → s.wrap.state.turning = true)
    ∧ (s.wrap.cutter = true → s.wrap.state = .cut)

/-- The stall timer runs just while the turntable output is on (R88), and an expiry noted at an abort stands only while the
timer is stopped (log 30). -/
def stallFits (s : State) : Prop :=
  (s.wrap.stall.isSome = true ↔ s.wrap.turntable = true) ∧ (s.wrap.stall.isSome = true → s.wrap.stallDue = none)

/-- The fault list holds at most 8 entries, and at most one for each kind and zone (R173). -/
def faultListFits (s : State) : Prop :=
  s.mon.faults.length ≤ 8 ∧ (s.mon.faults.map (fun e => (e.kind, e.zone))).Nodup

/-- The queues and the ring keep within their capacities, the Sequence queue with its reservations (R137, R182), and
the Request Tracker within its two entries (R41). -/
def queuesFit (s : State) : Prop :=
  s.seqUsed ≤ 8 ∧ s.tx.request.length ≤ 2 ∧ s.tx.report.length ≤ 8 ∧ s.ring.records.length ≤ 32 ∧ s.tracker.length ≤ 2

/-- The queue that a notice joins (R137). -/
def queueOf : Notice → Source
  | .claim _ _ _ _ | .released _ _ | .abandon _ _ | .withdrawn _ _ _ | .stalled _ _ _ => .sequence
  | .manifestRequest _ _ => .request
  | .statusReply _ _ | .faultReport _ => .report

/-- Each queue holds its own notices alone (R137); only the head of the Sequence or the Request queue in flight is marked
for removal (R138). -/
def queuesHold (s : State) : Prop :=
  (s.line.marked = true → s.line.inFlight = some .sequence ∨ s.line.inFlight = some .request)
    ∧ (∀ n ∈ s.tx.sequence, queueOf n = .sequence) ∧ (∀ n ∈ s.tx.request, queueOf n = .request)
    ∧ ∀ n ∈ s.tx.report, queueOf n = .report

/-- The Load View holds at most 16 entries, at most one for each load, each with its next in 1..256 (R141). -/
def viewFits (s : State) : Prop :=
  s.view.entries.length ≤ 16 ∧ (s.view.entries.map (·.load)).Nodup ∧ ∀ e ∈ s.view.entries, 1 ≤ e.next ∧ e.next ≤ 256

/-- The sum of the corner weights of a window. -/
def windowCorners (l : List Sample) : Corners := l.foldl (fun acc x => acc.add x.w) Corners.zero

/-- The sum of the gross values of a window. -/
def windowGross (l : List Sample) : Int := l.foldl (fun acc x => acc + x.g) 0

/-- The five running sums are the sums over the entries that the settle window holds, at most 64 of them, for a W code
of the configured range (R59). -/
def windowFits (s : State) : Prop :=
  s.cfg.wCode ≤ 3 ∧ s.weigh.window.length ≤ 64 ∧ s.weigh.sumW = windowCorners s.weigh.window
    ∧ s.weigh.sumG = windowGross s.weigh.window

/-- Every valid entry of the Manifest Cache stands in the set of its ident, holds its manifest under the manifest's own
ident, and is the only valid entry for it (R34, R35). -/
def cacheFits (s : State) : Prop :=
  ∀ (i : Fin 16) (w : Fin 4), ((s.cacheSet i).ways[w.val]).valid = true →
    setOf ((s.cacheSet i).ways[w.val]).ident = i
      ∧ ((s.cacheSet i).ways[w.val]).manifest.ident = ((s.cacheSet i).ways[w.val]).ident
      ∧ ∀ v : Fin 4, ((s.cacheSet i).ways[v.val]).valid = true →
          ((s.cacheSet i).ways[v.val]).ident = ((s.cacheSet i).ways[w.val]).ident → v = w

/-- Each record's zone field names the zone it stands in, and only the FRONT record leaves WAITING; the exit-slot
record carries zone 9 and EXITED (R4, R6, R20, R154). -/
def recordsFit (s : State) : Prop :=
  (∀ (z : Fin 9) (p : PalletRecord), s.pallet z = some p → p.zone = z.castSucc ∧ (z ≠ zFront → p.stage = .waiting))
    ∧ ∀ p, s.track.exitSlot = some p → p.zone = 9 ∧ p.stage = .exited

/-! ## Motions -/

/-- Some motion begins between the two states: a transfer, the reject transfer, the exit, a wrap or a homing (R8). -/
def motionBegins (s t : State) : Prop :=
  (∃ z, (t.transfer z).isRunning = true ∧ t.transfer z ≠ s.transfer z)
    ∨ (t.seq.reject.isRunning = true ∧ t.seq.reject ≠ s.seq.reject)
    ∨ (t.seq.exit.isRunning = true ∧ t.seq.exit ≠ s.seq.exit)
    ∨ (t.wrap.state.inProgress = true ∧ s.wrap.state.inProgress = false)
    ∨ (t.wrap.state = .homing ∧ s.wrap.state ≠ .homing)

/-- Nothing of the lane moves: no motion runs, and every drive, EXIT, REJECT, turntable, carriage, cutter and
applicator output is off (R175). -/
def allStopped (s : State) : Prop :=
  (∀ z, (s.transfer z).isRunning = false) ∧ s.seq.reject.isRunning = false ∧ s.seq.exit.isRunning = false
    ∧ s.wrap.state.inProgress = false ∧ s.wrap.state ≠ .homing
    ∧ s.out.zoneDrive = Vector.replicate 9 false ∧ s.out.exitOut = false ∧ s.out.rejectOut = false
    ∧ s.wrap.turntable = false ∧ s.wrap.carriageUp = false ∧ s.wrap.carriageDown = false ∧ s.wrap.cutter = false
    ∧ s.label.applyL = false ∧ s.label.applyR = false

/-- The head of the Sequence queue is a Claim that the station is sending (R137). -/
def claimBeingSent (s : State) : Prop := s.line.state = .send ∧ s.claimInFlight = true

/-! ## Which commands write a part of the state -/

/-- POWER_ON_RESET and RESET_ASSERTED, which write every part (R193). -/
def startsUp : Instr → Bool
  | .powerOnReset | .resetAsserted => true
  | _ => false

/-- The commands that are a timer's expiry, whose instant the Lane Clock may jump to (log 4). -/
def isExpiry : Instr → Bool
  | .transferTimeout _ | .rejectTransferTimeout | .exitTimeout | .tagReadTimeout | .manifestTimeout _ | .settleTimeout
  | .turntableStallTimeout | .cutTimeEnd | .printTimeout | .applyPulseEnd | .applyTimeout | .claimTimeout _
  | .stallTimeout | .laneLampPhase => true
  | _ => false

/-- The commands that carry a level of an input pin (log 6). -/
def movesPin : Instr → Bool
  | .inArrival | .eyeEdgeNoEffect _ _ | .transferComplete _ | .rejectTransferComplete | .exitComplete
  | .rejectTransferStart _ | .exitStart _ | .claimQueue _ | .topEyeEdge _ | .mastHomeAsserted _ | .filmLowInput _
  | .labelMarkEdge _ | .appliedConfirmation _ _ | .labelLowInput _ _ | .estopInput _ | .runOnInput _ | .ack _
  | .restart _ => true
  | _ => false

/-- The commands by which a record can leave the track other than through the exit slot (R7, R15, R18, R23, R25). -/
def removesRecord : Instr → Bool
  | .rejectTransferComplete | .eyeEdgeNoEffect _ _ | .start _ _ | .purge _ _ _ | .restart _ => true
  | _ => false

/-- The commands at which a notice of the station's own can complete (R136). -/
def completesOwn : Instr → Bool
  | .ownNoticeComplete | .claim _ _ _ _ _ _ | .released _ _ _ _ | .abandon _ _ _ _ => true
  | _ => false

/-- The commands at which a Released of the station's own can complete (R159). -/
def completesReleased : Instr → Bool
  | .ownNoticeComplete | .released _ _ _ _ => true
  | _ => false

/-- The commands that move the Load View apart from records that leave (R37, R39, R147 to R152). -/
def movesView : Instr → Bool
  | .tagReply _ | .manifest _ _ _ | .skip _ _ _ _ | .loadClose _ _ _ | .claimTimeout _ => true
  | c => completesOwn c

/-- The six lane commands that write the last command result (R169). -/
def isLaneCommand : Instr → Bool
  | .start _ _ | .stop _ _ | .ack _ | .forceRelease _ _ | .purge _ _ _ | .restart _ => true
  | _ => false

/-- The commands that move the mast counter or the homed flag (R89, R92, R93). -/
def movesMast : Instr → Bool
  | .mastStep _ | .mastHomeAsserted _ | .start _ _ => true
  | _ => false

/-- The commands at which a pallet can arrive at IN or be found by a lane restart (R9, R26). -/
def createsRecord : Instr → Bool
  | .inArrival | .eyeEdgeNoEffect _ _ | .restart _ => true
  | _ => false

/-! ## Words of the statements -/

/-- The fault list has room for one more entry (R174). -/
def room (s : State) : Prop := s.mon.faults.length < 8

/-- No entry of the kind and zone is listed (R174). -/
def unlisted (s : State) (k : FaultKind) (z : Option (Fin 11)) : Prop := ∀ e ∈ s.mon.faults, e.kind = k → e.zone ≠ z

/-- An entry of the kind and zone is listed, with its cause present (R173). -/
def listedPresent (s : State) (k : FaultKind) (z : Option (Fin 11)) : Prop :=
  ∃ e ∈ s.mon.faults, e.kind = k ∧ e.zone = z ∧ e.present = true

/-- The lane is in a state that an immediate fault takes to FAULT (R167, R175). -/
def live (s : State) : Prop := s.mon.lane = .stopped ∨ s.mon.lane = .running ∨ s.mon.lane = .stopping

/-- A notice comes from another station, and its destination is this station or all (R129, R130). -/
def offered (s : State) (src : Station) (dst : BitVec 4) : Prop := src ≠ s.own ∧ (dst = 15#4 ∨ dst.toNat = s.own.val)

/-- The state after the reception of a notice from `src` taken whole, with the line error count `errors`: the last sender is
`src`, the notice's line activity has passed (log 15), and no part but the Dock Line Interface has changed (R129, R130). -/
def received (s : State) (src : Station) (errors : Nat) : State :=
  { s with line := { (s.heard src).line with lineErrors := errors } }

/-- The clock at the expiry of a timer that started at `since` (R192, log 4). -/
def expiresAt (s t : State) (since : Ms) (period : Nat) : Prop :=
  t.clock = if period ≤ (s.clock - since).toNat then s.clock else since + BitVec.ofNat 32 period

/-- The record is the same pallet: tag, ident and manifest copy (R4, R5). -/
def samePallet (p q : PalletRecord) : Prop := q.tag = p.tag ∧ q.ident = p.ident ∧ q.manifest = p.manifest

/-- The ring has taken the record at its tail (R182); a full ring has lost its oldest record not in flight, and the
records-lost count has risen (R184). -/
def ringTakes (s t : State) (r : DispatchRecord) : Prop :=
  if s.ring.records.length < 32 then t.ring = ⟨s.ring.records ++ [r], s.ring.lost⟩
  else t.ring.lost = min 65535 (s.ring.lost + 1)
    ∧ t.ring.records =
        (if s.line.inFlight = some .ring then s.ring.records.take 1 ++ s.ring.records.drop 2 else s.ring.records.drop 1) ++ [r]

/-- A Stalled notice of this instant has still to find a place: one formed in it that found none, or that of a stall timer
that has counted T_wait (R163; log 33). -/
def stalledWaits (s : State) (n : Notice) : Prop :=
  (∃ load seq next, s.tx.unplaced = some ⟨load, seq, next, s.clock⟩ ∧ n = .stalled load seq next)
    ∨ ∃ since load seq next, s.rel.stall = some since ∧ 1000 * s.cfg.tWait ≤ (s.clock - since).toNat ∧ n = .stalled load seq next

/-- The Sequence queue after an event that frees places: as given, or with a Stalled notice of this instant behind, which
has taken a freed place that a start waits for too (R137; log 33). -/
def queueIs (s t : State) (queue : List Notice) : Prop :=
  t.tx.sequence = queue ∨ ∃ n, stalledWaits s n ∧ t.tx.sequence = queue ++ [n]

/-- The dispatch record takes these fields from the pallet record and from its removal (R181): an absent ident is 0, and a
record that is not identified has load, sequence and serial 0; an absent measurement stays absent, and its value is 0 in
the body (recordFields). -/
def takenFrom (p : PalletRecord) (outcome : DispatchOutcome) (now : Ms) (r : DispatchRecord) : Prop :=
  r.tag = p.tag ∧ (∀ x, p.ident = some x → r.ident = x) ∧ (p.ident = none → r.ident = 0)
    ∧ (∀ m, p.manifest = some m → r.load = m.load ∧ r.seq = m.seq ∧ r.serial = m.serial)
    ∧ (p.manifest = none → r.load = 0 ∧ r.seq = 0 ∧ r.serial = 0)
    ∧ r.outcome = outcome ∧ r.reasons = p.reasons ∧ r.wrap = p.wrap ∧ r.label = p.label ∧ r.net = p.net
    ∧ r.height = p.height ∧ r.lateral = p.lateral ∧ r.longitudinal = p.longitudinal ∧ r.caseDev = p.caseDev ∧ r.time = now

/-- START is accepted (R170). -/
def startAccepted (s : State) : Prop :=
  s.mon.lane = .stopped ∧ (∀ e ∈ s.mon.faults, e.kind.immediate = false) ∧ s.inp.estop = false ∧ s.frontDuplicate = false

/-- The conditions that R11 adds for a transfer out of `z`, for a dropped one begun anew at the entry into RUNNING: the
TABLE rollers may run, for no homing holds them back (R92, R112); the Label Controller consents, or does so in that event
because the record has reasons (R116, R119); a record in DIVERT has no reasons (R16). -/
def goesOn (s : State) (z : Fin 8) (p : PalletRecord) : Prop :=
  (z = 1 ∨ z = 2 → (s.wrap.state = .idle ∨ s.wrap.state = .done ∨ s.wrap.state = .aborted)
      ∧ (s.wrap.homed = true ∨ s.inp.mastHome = true))
    ∧ (z = 2 → p.label ≠ .none ∨ p.reasons ≠ 0 ∨ ∃ j, s.label.tableJob = some j ∧ j.tag = p.tag
        ∧ (j.phase = .consented ∨ j.phase = .armed ∨ j.phase = .fired))
    ∧ (z = 4 → p.reasons = 0)

/-- The record has been counted out of its load: a closing entry whose count reaches 0 is gone, another entry's count is
one less, and the other loads stand as they were; a record without a load changes nothing in the view (R145). -/
def countsOut (s t : State) (p : PalletRecord) : Prop :=
  match p.manifest with
  | none => t.view = s.view
  | some m =>
    (∀ load, load ≠ m.load → t.loadEntry load = s.loadEntry load)
      ∧ ∀ e, s.loadEntry m.load = some e →
          if e.count ≤ 1 ∧ e.closing = true then t.loadEntry m.load = none
          else ∃ e', t.loadEntry m.load = some e' ∧ e'.count = e.count - 1 ∧ e'.closing = e.closing

/-- The entry has been created at the head of the list; a full list has lost the last of its entries with count 0
(R143). -/
def createdIn (s t : State) (e : LoadEntry) : Prop :=
  (s.view.entries.length < 16 → t.view.entries = e :: s.view.entries)
    ∧ ∀ before v after, s.view.entries.length = 16 → s.view.entries = before ++ v :: after → v.count = 0 →
        (∀ x ∈ after, x.count ≠ 0) → t.view.entries = e :: (before ++ after)

/-- The orders of search of R140 in the modes 1 and 2, by the round-robin pointer. -/
def searchRows : List (Nat × Source × List Source) :=
  [(1, .request, [.sequence, .request, .report, .ring]), (1, .report, [.sequence, .report, .ring, .request]),
    (1, .ring, [.sequence, .ring, .request, .report]), (2, .sequence, [.sequence, .request, .report, .ring]),
    (2, .request, [.request, .report, .ring, .sequence]), (2, .report, [.report, .ring, .sequence, .request]),
    (2, .ring, [.ring, .sequence, .request, .report])]

/-- Where the round-robin pointer moves when a source is served, in the modes 1 and 2 (R140). -/
def servedRows : List (Nat × Source × Source) :=
  [(1, .request, .report), (1, .report, .ring), (1, .ring, .request), (2, .sequence, .request), (2, .request, .report),
    (2, .report, .ring), (2, .ring, .sequence)]

/-- The fault monitor after a raise of the kind and zone (R174): a listed entry is counted again with its cause present; a
list with room takes a new entry, and its Fault Report joins the Report queue where it has a place (R139, R179); a full list
takes none and the overflow marker is set. -/
def raisedIn (s t : State) (k : FaultKind) (z : Option (Fin 11)) : Prop :=
  if ∃ e ∈ s.mon.faults, e.kind = k ∧ e.zone = z then
    t.mon.faults = s.mon.faults.map (fun e =>
        if e.kind = k ∧ e.zone = z then { e with raises := min 255 (e.raises + 1), present := true } else e)
      ∧ t.mon.overflow = s.mon.overflow ∧ t.tx.report = s.tx.report
  else if s.mon.faults.length < 8 then
    t.mon.faults = s.mon.faults ++ [⟨k, z, 1, s.clock, true⟩] ∧ t.mon.overflow = s.mon.overflow
      ∧ t.tx.report = (if s.tx.report.length < 8 then s.tx.report ++ [.faultReport (faultReportBody ⟨k, z, 1, s.clock, true⟩
          s.mon.faults.length (s.mon.faults.length + 1) s.mon.overflow
          (if k.immediate = true ∧ s.working = true then .fault else s.mon.lane))] else s.tx.report)
  else t.mon.faults = s.mon.faults ∧ t.mon.overflow = true ∧ t.tx.report = s.tx.report

/-! ## Notice bodies and Status Reply contents, field by field (R186, R187, R198 to R200) -/

/-- A field of a layout: its offset, its bytes, its value. -/
abbrev Field := Nat × Nat × Nat

/-- The fields stand at their offsets, each with its value's lowest bytes, most significant first (R194). -/
def fieldsAre (content : List Byte) (fields : List Field) : Prop := ∀ f ∈ fields, beAt content f.1 f.2.1 = f.2.2 % 256 ^ f.2.1

/-- A reply of `count` parts: each opens with the subject, the index and the answer, part number and part count, and the
contents of the parts, one after another, hold the fields (R200). -/
def replyIs (parts : List (List Byte)) (subject index : Byte) (answer count : Nat) (fields : List Field) : Prop :=
  parts.length = count
    ∧ (∀ (k : Nat) (b : List Byte), parts[k]? = some b →
        b.length = 28 ∧ b.take 3 = [subject, index, BitVec.ofNat 8 (answer + 16 * (k + 1) + 64 * count)])
    ∧ fieldsAre (parts.flatMap (·.drop 3)) fields

/-- A signed number brought into the range of `n` bits, in two's complement (R194, R197). -/
def signedIn (n : Nat) (x : Int) : Nat := (BitVec.ofInt n (max (-(2 ^ (n - 1) : Int)) (min (2 ^ (n - 1) - 1) x))).toNat

/-- A body of `size` bytes that holds the fields (R198, R199). -/
def bodyIs (body : List Byte) (size : Nat) (fields : List Field) : Prop := body.length = size ∧ fieldsAre body fields

/-- The fields of a Dispatch Record body (R199). -/
def recordFields (r : DispatchRecord) : List Field :=
  [(0, 1, r.tag.toNat),
    (1, 1, r.outcome.code + 4 * r.wrap.code + 16 * r.label.code + flag r.label.failedLeft 64 + flag r.label.failedRight 128),
    (2, 4, r.ident.toNat), (6, 2, r.load.toNat), (8, 1, r.seq.toNat), (9, 5, r.serial.toNat),
    (14, 2, r.reasons.toNat + flag r.net.isSome 8192 + flag r.caseDev.isSome 16384 + flag r.height.isSome 32768),
    (16, 4, r.time.toNat),
    (20, 4, 1024 * signedIn 22 (r.net.getD 0) + signedIn 10 ((r.height.getD 0).fdiv 10)),
    (24, 3, 8192 * (BitVec.ofInt 11 (r.lateral.getD 0)).toNat + 4 * (BitVec.ofInt 11 (r.longitudinal.getD 0)).toNat
      + flag r.lateral.isSome 2 + flag r.longitudinal.isSome 1),
    (27, 1, (BitVec.ofInt 8 (r.caseDev.getD 0)).toNat)]

/-- The LANE string's 21 bytes, and the zeros that follow (R200). -/
def laneFields (s : State) : List Field :=
  [(0, 1, s.mon.lane.code), (1, 1, (s.zone 0).code), (2, 1, (s.zone 1).code), (3, 1, (s.zone 2).code),
    (4, 1, (s.zone 3).code), (5, 1, (s.zone 4).code), (6, 1, (s.zone 5).code), (7, 1, (s.zone 6).code),
    (8, 1, (s.zone 7).code), (9, 1, (s.zone 8).code),
    (10, 1, flag s.track.exitSlot.isSome 1 + flag s.mon.overflow 2 + flag s.line.congested 4),
    (11, 1, s.mon.faults.length)]
  ++ (match s.mon.last with
      | none => [(12, 4, 0), (16, 4, 0)]
      | some r =>
        [(12, 1, r.command.code), (13, 1, match r.command with | .purge z => z.toNat | _ => 15), (14, 1, r.result.code),
          (15, 1, match r.origin with | some st => st.val | none => 128), (16, 4, r.time.toNat)])
  ++ [(20, 1, s.ring.records.length), (21, 4, 0)]

/-- The COUNTERS string's 14 bytes (R200). -/
def countersFields (s : State) : List Field :=
  [(0, 2, s.line.lineErrors), (2, 2, s.line.collisions), (4, 2, s.view.skips), (6, 2, s.ring.lost), (8, 2, s.track.issued),
    (10, 4, s.clock.toNat), (14, 11, 0)]

/-- The FAULTS string's 9 bytes for an entry, or for none (R200). -/
def faultFields (s : State) : Option FaultEntry → List Field
  | some e =>
    [(0, 1, e.kind.code), (1, 1, match e.zone with | some z => z.val | none => 15),
      (2, 1, flag e.kind.immediate 128 + flag s.mon.overflow 64 + flag e.present 1), (3, 1, e.raises),
      (4, 4, e.since.toNat), (8, 1, s.mon.faults.length), (9, 16, 0)]
  | none => [(0, 2, 0), (2, 1, flag s.mon.overflow 64), (3, 5, 0), (8, 1, s.mon.faults.length), (9, 16, 0)]

/-- The VIEW string's 13 bytes for an entry, or for none (R186, R200). -/
def viewFields (s : State) : Option LoadEntry → List Field
  | some e =>
    [(0, 2, e.load.toNat), (2, 2, e.next), (4, 1, e.total.toNat)]
    ++ (match e.claim with
        | some c =>
          [(5, 1, 128 + flag e.closing 64 + c.station.val), (6, 1, c.seq.toNat),
            (7, 4, 1000 * s.cfg.tClaim - (s.clock - c.since).toNat)]
        | none => [(5, 1, flag e.closing 64), (6, 5, 0)])
    ++ [(11, 1, e.count), (12, 1, s.view.entries.length), (13, 12, 0)]
  | none => [(0, 12, 0), (12, 1, s.view.entries.length), (13, 12, 0)]

/-- The PROBE string's 29 bytes of a set's way: the flags, and the entry as a Manifest body (R49, R200). -/
def probeFields (c : CacheSet) (w : Fin 4) : List Field :=
  [(0, 1, flag (c.ways[w.val]).valid 1 + flag c.b0 16 + flag c.b1 32 + flag c.b2 64),
    (1, 28, if (c.ways[w.val]).valid then beNat (manifestBody (c.ways[w.val]).manifest) else 0), (29, 21, 0)]

/-- Bytes 0 to 37 of a ZONE string: the zone state's code and the record summary (R187, R199, R200). -/
def summaryFields (zone : Nat) : Option PalletRecord → List Field
  | none => [(0, 1, zone), (1, 37, 0)]
  | some p =>
    [(0, 1, zone + 8 + flag p.orphan 16 + flag p.ident.isSome 32 + flag p.manifest.isSome 64 + flag p.waiting 128),
      (1, 1, p.tag.toNat), (2, 4, (p.ident.getD 0).toNat), (6, 2, ((p.manifest.map Manifest.load).getD 0).toNat),
      (8, 1, ((p.manifest.map Manifest.seq).getD 0).toNat), (9, 1, ((p.manifest.map Manifest.total).getD 0).toNat),
      (10, 2, p.reasons.toNat + flag p.net.isSome 8192 + flag p.caseDev.isSome 16384 + flag p.height.isSome 32768),
      (12, 4, 1024 * signedIn 22 (p.net.getD 0) + signedIn 10 ((p.height.getD 0).fdiv 10)),
      (16, 3, 8192 * (BitVec.ofInt 11 (p.lateral.getD 0)).toNat + 4 * (BitVec.ofInt 11 (p.longitudinal.getD 0)).toNat
        + flag p.lateral.isSome 2 + flag p.longitudinal.isSome 1),
      (19, 1, (BitVec.ofInt 8 (p.caseDev.getD 0)).toNat), (20, 4, (BitVec.ofInt 32 (p.gross.getD 0)).toNat),
      (24, 4, signedIn 32 (p.deviation.getD 0)),
      (28, 1, flag p.verdictTime.isSome 1 + flag p.gross.isSome 2 + 4 * p.wrap.code + 16 * p.label.code
        + flag p.label.failedLeft 64 + flag p.label.failedRight 128),
      (29, 1, p.stage.code), (30, 4, p.arrival.toNat), (34, 4, (p.verdictTime.getD 0).toNat)]

/-- A job's phase and side states, or none (R200). -/
def jobFields (first : Nat) : Option Job → List Field
  | some j => [(first, 1, j.phase.code), (first + 1, 1, 16 * j.left.code + j.right.code)]
  | none => [(first, 2, 0)]

/-- The bytes that a zone adds from byte 38 on, and the zeros that follow (R187, R200). -/
def addedFields (s : State) (z : Fin 9) : List Field :=
  match z.val with
  | 1 => [(38, 1, s.weigh.state.code), (39, 1, flag s.weigh.tSettle.isSome 1), (40, 10, 0)]
  | 2 =>
    [(38, 1, s.wrap.state.code + flag s.wrap.homed 16 + flag s.wrap.capture.isSome 32
        + flag (s.label.tableJob.bind (·.mark)).isSome 64),
      (39, 2, s.wrap.mast.toNat), (41, 2, s.wrap.angle.toNat), (43, 1, s.wrap.rev), (44, 2, s.wrap.mastCmp.active.toNat),
      (46, 2, s.wrap.angleCmp.active.toNat), (48, 2, (s.wrap.capture.getD 0).toNat)]
    ++ jobFields 50 s.label.tableJob
    ++ [(52, 2, ((s.label.tableJob.bind (·.mark)).getD 0).toNat), (54, 2, s.label.cmp.active.toNat), (56, 19, 0)]
  | 3 => jobFields 38 s.label.labelJob ++ [(40, 10, 0)]
  | 8 => [(38, 1, flag s.rel.stall.isSome 1 + flag s.rel.force 2 + flag s.rel.followUp 4), (39, 11, 0)]
  | _ => [(38, 12, 0)]

end Sys2Proof.Safety
end

