-- ==== Sys2Proof/Certificates/Slice0/Obligations.lean ====
section
/-! DEFINITION. The statements for the provers. `finish` is the end of every event: the starts that the rules make in
that event (log 5); what it can change is the statement StartsFrame, what it leaves undone NoStartLeftWaiting. -/

section

open Sys2Proof Sys2Proof.Machine Sys2Proof.Safety

/-! ## The step, reset and the clock -/

/-- A step takes the command at the front of the queue and runs it with the queue's rest. -/
def Obligations.StepRunsFrontCommand : Prop :=
  ∀ (s : State) (c : Instr) (rest : List Instr), s.pending = c :: rest → step s = exec c { s with pending := rest }

/-- Without a command a step is one millisecond of the Lane Clock; a timer that is then due expires by its own command.
The model's choice: log 3, log 19. -/
def Obligations.IdleStepTicks : Prop :=
  (∀ s : State, s.pending = [] → s.inp.resetPin = true → step s = .next s)
    ∧ (∀ s : State, s.pending = [] → s.inp.resetPin = false → { s with clock := s.clock + 1 }.dueCommands = [] →
        step s = .next { s with clock := s.clock + 1 })
    ∧ ∀ (s : State) (i : Instr), s.pending = [] → s.inp.resetPin = false →
        { s with clock := s.clock + 1 }.dueCommands = [i] → step s = exec i { s with clock := s.clock + 1 }

/-- The start-up values of R193's table; POWER_ON_RESET and RESET_ASSERTED bring every block to them. That the input
pins keep their levels through it is the model's choice (log 1). -/
def Obligations.ResetIsStartUp : Prop :=
  (State.reset.mon.lane = .config ∧ State.reset.clock = 0 ∧ State.reset.image = none
    ∧ (∀ z, State.reset.zone z = .empty ∧ State.reset.pallet z = none) ∧ State.reset.track.exitSlot = none
    ∧ State.reset.track.tagCounter = 0 ∧ State.reset.track.issued = 0
    ∧ (∀ z, State.reset.transfer z = .idle) ∧ State.reset.seq.reject = .idle ∧ State.reset.seq.exit = .idle
    ∧ (∀ (i : Fin 16) (w : Fin 4), ((State.reset.cacheSet i).ways[w.val]).valid = false
        ∧ (State.reset.cacheSet i).b0 = false ∧ (State.reset.cacheSet i).b1 = false ∧ (State.reset.cacheSet i).b2 = false)
    ∧ State.reset.tracker = [] ∧ State.reset.read = ⟨none, none⟩
    ∧ State.reset.bed.held = Vector.replicate 5 0 ∧ State.reset.bed.miss = Vector.replicate 5 0
    ∧ State.reset.bed.judged = Vector.replicate 5 none ∧ State.reset.bed.slot = 0 ∧ State.reset.bed.driven = false
    ∧ State.reset.weigh.window = [] ∧ State.reset.weigh.state = .idle ∧ State.reset.weigh.zb = 0
    ∧ State.reset.wrap.state = .idle ∧ State.reset.wrap.homed = false ∧ State.reset.wrap.mast = 0
    ∧ State.reset.wrap.angle = 0 ∧ State.reset.wrap.rev = 0 ∧ State.reset.wrap.conveyor = 0
    ∧ State.reset.wrap.mastCmp = ⟨false, 0, 0⟩ ∧ State.reset.wrap.angleCmp = ⟨false, 0, 0⟩
    ∧ State.reset.wrap.filmClamp = false ∧ State.reset.wrap.turntable = false ∧ State.reset.wrap.cutter = false
    ∧ State.reset.wrap.carriageUp = false ∧ State.reset.wrap.carriageDown = false
    ∧ State.reset.label.tableJob = none ∧ State.reset.label.labelJob = none ∧ State.reset.label.cmp = ⟨false, 0, 0⟩
    ∧ State.reset.view = ⟨[], 0⟩ ∧ State.reset.rel = ⟨false, false, none⟩
    ∧ State.reset.line.state = .idle ∧ State.reset.line.retry = 0 ∧ State.reset.line.collisions = 0
    ∧ State.reset.line.lineErrors = 0 ∧ State.reset.line.congested = false
    ∧ State.reset.tx.sequence = [] ∧ State.reset.tx.request = [] ∧ State.reset.tx.report = []
    ∧ State.reset.tx.rejectReserved = false ∧ State.reset.ring = ⟨[], 0⟩
    ∧ State.reset.mon.faults = [] ∧ State.reset.mon.overflow = false ∧ State.reset.mon.motions = 0
    ∧ State.reset.mon.last = none ∧ State.reset.mon.lamp = false)
    ∧ (∀ s : State,
    exec .powerOnReset s = .next { State.reset with
      inp := { s.inp with resetPin := false }, free := s.free, pending := s.pending }
    ∧ exec .resetAsserted s = .next { State.reset with
      inp := { s.inp with resetPin := true }, free := s.free, pending := s.pending })

/-! ## Every start in its event -/

/-- What the starts that end an event can change: nothing of the parts that startsKeep lists. -/
def Obligations.StartsFrame : Prop := ∀ s : State, startsKeep s s.finish

/-- A working lane leaves no start waiting after any command: every start is made in the event that makes its
conditions true. -/
def Obligations.NoStartLeftWaiting : Prop :=
  ∀ (c : Instr) (s t : State), exec c s = .next t → t.working = true → noneWaiting t

/-! ## Invariants of every step -/

/-- The drive outputs and the motion count follow the motions (R2, R168), BED_STROBE and BED_CLK the lane state (R50); the
wrap outputs fit the wrap state, and CARRIAGE_UP and CARRIAGE_DOWN are never on together (R91, R112); the stall timer runs
just while the turntable output is on (R88), with no expiry noted beside it, which is the model's bookkeeping (log 30). -/
def Obligations.OutputsFitMotions : Prop :=
  (∀ s t : State, outputsFollow s → step s = .next t → outputsFollow t)
    ∧ (∀ s t : State, stallFits s → step s = .next t → stallFits t)
    ∧ ((∀ s t : State, wrapOutputsFit s → step s = .next t → wrapOutputsFit t)
    ∧ ∀ s : State, wrapOutputsFit s → ¬(s.wrap.carriageUp = true ∧ s.wrap.carriageDown = true))

/-- The fault list keeps its form (R173); the queues, the ring and the Request Tracker keep within their capacities
(R41, R137, R182); each queue holds its own notices, and only a head of the Sequence or Request queue in flight is marked
for removal (R137, R138). -/
def Obligations.ListsKeepWithinCapacity : Prop :=
  (∀ s t : State, faultListFits s → step s = .next t → faultListFits t)
    ∧ (∀ s t : State, queuesFit s → step s = .next t → queuesFit t)
    ∧ (∀ s t : State, queuesHold s → step s = .next t → queuesHold t)

/-- The Load View keeps its form (R141). -/
def Obligations.LoadViewKeepsForm : Prop := ∀ s t : State, viewFits s → step s = .next t → viewFits t

/-- The running sums stay the sums over the settle window (R59). -/
def Obligations.WindowSumsHold : Prop := ∀ s t : State, windowFits s → step s = .next t → windowFits t

/-- The Manifest Cache keeps one valid entry for an ident, in the ident's set (R34, R35). -/
def Obligations.CacheKeepsForm : Prop := ∀ s t : State, cacheFits s → step s = .next t → cacheFits t

/-- Each record's zone field and release stage fit the place it stands in (R4, R154). -/
def Obligations.RecordsStayInPlace : Prop := ∀ s t : State, recordsFit s → step s = .next t → recordsFit t

/-- The start-up state has every invariant above. -/
def Obligations.InvariantsAtReset : Prop :=
  noneWaiting State.reset ∧ outputsFollow State.reset ∧ wrapOutputsFit State.reset ∧ stallFits State.reset
    ∧ faultListFits State.reset ∧ queuesFit State.reset ∧ queuesHold State.reset ∧ viewFits State.reset
    ∧ windowFits State.reset ∧ cacheFits State.reset ∧ recordsFit State.reset

/-! ## Rules of the whole lane -/

/-- A load entry's next never decreases while the entry exists, whatever the command (R141). -/
def Obligations.NextNeverDecreases : Prop :=
  ∀ (c : Instr) (s t : State) (load : BitVec 16) (e e' : LoadEntry), viewFits s → exec c s = .next t →
    s.loadEntry load = some e → t.loadEntry load = some e' → e.next ≤ e'.next

/-- Which commands write which part of the state: outside the start-up commands, a part changes by no command but those
named for it (R3, R29, R51, R67, R86, R89, R128, R132, R136, R169, R182, R186, R188, R192). The premise, that only a Sequence
or Request notice in flight is marked for removal, is part of queuesHold, which every step keeps. -/
def Obligations.FrameOfCommands : Prop :=
  ∀ (c : Instr) (s t : State), (s.line.marked = true → s.line.inFlight = some .sequence ∨ s.line.inFlight = some .request) →
    exec c s = .next t → startsUp c = false →
    t.pending = s.pending
    ∧ (isExpiry c = false → t.clock = s.clock)
    ∧ ((∀ b, c ≠ .configBlockRead b) → t.image = s.image)
    ∧ (movesPin c = false → t.inp = s.inp)
    ∧ ((∀ i b, c ≠ .bedSlotJudged i b) → c ≠ .bedFrameComplete → (∀ b, c ≠ .configBlockRead b) → t.bed = s.bed)
    ∧ (c ≠ .bedFrameComplete → t.weigh.zb = s.weigh.zb)
    ∧ ((∀ r, c ≠ .tagReply r) → (∀ x y m, c ≠ .manifest x y m) → (∀ x y i, c ≠ .manifestVoid x y i) → t.cache = s.cache)
    ∧ (movesView c = false → removesRecord c = false → t.view = s.view)
    ∧ (completesReleased c = false → removesRecord c = false → t.ring = s.ring)
    ∧ (isLaneCommand c = false → t.mon.last = s.mon.last)
    ∧ (movesMast c = false → t.wrap.mast = s.wrap.mast ∧ t.wrap.homed = s.wrap.homed)
    ∧ (c ≠ .conveyorPulse → t.wrap.conveyor = s.wrap.conveyor)
    ∧ (c ≠ .turntableIndex → t.wrap.angleCapture = s.wrap.angleCapture)
    ∧ (createsRecord c = false → t.track.tagCounter = s.track.tagCounter ∧ t.track.issued = s.track.issued
        ∧ t.out.tagTx = s.out.tagTx)
    ∧ (createsRecord c = false → removesRecord c = false → (∀ r, c ≠ .tagReply r) → c ≠ .tagReadTimeout → t.read = s.read)
    ∧ (completesReleased c = false → createsRecord c = false → c ≠ .exitComplete → t.track.exitSlot = s.track.exitSlot)
    ∧ (c ≠ .collision → t.line.collisions = s.line.collisions)
    ∧ (completesOwn c = false → (∀ b, c ≠ .configBlockRead b) → t.tx.pointer = s.tx.pointer)

/-- A motion other than an applicator firing begins only while the lane is RUNNING (R8, R171). -/
def Obligations.MotionsBeginOnlyInRunning : Prop :=
  ∀ (c : Instr) (s t : State), exec c s = .next t → motionBegins s t → t.mon.lane = .running

/-- The entry into FAULT stops every motion and every output of a motion (R175). -/
def Obligations.FaultStopsEverything : Prop :=
  ∀ (c : Instr) (s t : State), wrapOutputsFit s → live s → exec c s = .next t → t.mon.lane = .fault →
    allStopped t ∧ t.mon.motions = 0

/-- Only the completion of a Claim that the station was sending makes a FRONT record CLAIM_WON: the Claim is in flight, and
the command is one at which an own notice completes (R156). An exit begins only from CLAIM_WON, or in the event in which
that Claim completes (R158). The premises are invariants of every step: recordsFit and queuesHold. -/
def Obligations.ClaimWonThenExit : Prop :=
  (∀ (c : Instr) (s t : State), recordsFit s → queuesHold s → exec c s = .next t → s.frontStage ≠ some .claimWon →
    t.frontStage = some .claimWon → claimBeingSent s ∧ completesOwn c = true)
    ∧ (∀ (c : Instr) (s t : State), recordsFit s → queuesHold s → exec c s = .next t → s.seq.exit = .idle →
    t.seq.exit.isRunning = true → s.frontStage = some .claimWon ∨ (claimBeingSent s ∧ completesOwn c = true))

/-! ## Configuration and the lamp (chapter 11, R180) -/

/-- The judged block: accepted with its image kept, the bed link begun (R50) and the inputs of R191 raised, or rejected
(R188, R189, R191). The last sender becomes the own number, and the pointer takes its start-up value, Request in mode 1 and
Sequence in mode 2 (7.3, 7.8, 7.9). That both are set at this event, and that the pointer is Sequence in mode 0, where it
is not used, is the model's choice (log 2). -/
def Obligations.ConfigurationJudged : Prop :=
  (∀ (s : State) (b : List Byte) (st : Station), s.mon.lane = .config → s.inp.resetPin = false → b.length = 256 →
      byteTotal (b.take 254) % 65536 = beAt b 254 2 → beAt b 0 1 % 16 = st.val → s.mon.faults = [] →
      ∃ t, exec (.configBlockRead b) s = .next t ∧ t.image = some (imageOf b st) ∧ t.line.lastSender = st
        ∧ t.mon.lane = (if s.inp.estop then .fault else .stopped) ∧ t.clock = s.clock
        ∧ t.bed = { s.bed with slot := 0, driven := true }
        ∧ (s.inp.estop = true → listedPresent t .estop none) ∧ (s.inp.filmLow = true → listedPresent t .filmLow (some 2))
        ∧ (s.inp.labelLowL = true ∨ s.inp.labelLowR = true → listedPresent t .labelLow (some 3))
        ∧ t.tx.pointer = (if (imageOf b st).arbMode = 1 then .request else .sequence))
    ∧ ∀ (s : State) (b : List Byte), s.mon.lane = .config → s.inp.resetPin = false → b.length = 256 →
        (byteTotal (b.take 254) % 65536 ≠ beAt b 254 2 ∨ beAt b 0 1 % 16 = 15) →
        exec (.configBlockRead b) s =
          .next { s with mon := { s.mon with lane := .unconfigured, lamp := true, lampSince := some s.clock } }

/-- Every value of an accepted block lies in the range of chapter 11.1 after the clamps (R190); and each is the value read at
its place in the layout (R202), kept as read where it was in range. -/
def Obligations.ImageWithinRange : Prop :=
  ∀ (b : List Byte) (c : Image), loadConfig b = some c →
    c.bitRate ≤ 2 ∧ c.arbMode ≤ 2 ∧ c.frameRate ≤ 2 ∧ c.wCode ≤ 3 ∧ c.retries ≤ 3
      ∧ (∀ g ∈ [c.gains.c0, c.gains.c1, c.gains.c2, c.gains.c3], 1 ≤ g ∧ g ≤ 65535)
      ∧ (∀ z ∈ [c.zeros.c0, c.zeros.c1, c.zeros.c2, c.zeros.c3], -8388608 ≤ z ∧ z ≤ 8388607)
      ∧ 1 ≤ c.mu ∧ c.mu ≤ 65535 ∧ 100 ≤ c.countsPerRev ∧ c.countsPerRev ≤ 65535
      ∧ c.latLimit ≤ 1000 ∧ c.longLimit ≤ 1000 ∧ 1 ≤ c.minGross ∧ c.minGross ≤ 2000000
      ∧ (∀ n ∈ [c.cutTime, c.tRead, c.tManifest, c.tTransfer, c.tExit, c.tSettle, c.tPrint, c.tApply, c.tClaim, c.tWait],
          1 ≤ n ∧ n ≤ 255)
      ∧ c.tExit + 50 ≤ 10 * c.tClaim
      ∧ c.span ≤ 65535 ∧ c.zeroLimit ≤ 65535 ∧ c.deckOffset ≤ 65535 ∧ c.forceGain ≤ 65535
      ∧ (∀ t ∈ c.tare.toList, t ≤ 65535) ∧ (∀ e ∈ c.tolerance.toList, e.fixed ≤ 65535 ∧ e.perMille ≤ 255)
      ∧ (∀ w ∈ c.classes.toList, w.bottomCount ≤ 15 ∧ w.topCount ≤ 15 ∧ w.overlapMm ≤ 255
          ∧ 0 ≤ w.breakLevel ∧ w.breakLevel ≤ 65535 ∧ 0 ≤ w.highLevel ∧ w.highLevel ≤ 65535)
      ∧ (b.length = 256 →
          c.station.val = beAt b 0 1 % 16 ∧ c.recordAddr.toNat = beAt b 0 1 / 16 ∧ c.bitRate = min 2 (beAt b 1 1 % 4)
          ∧ c.arbMode = min 2 (beAt b 1 1 / 4 % 4) ∧ c.frameRate = min 2 (beAt b 1 1 / 16 % 4) ∧ c.wCode = beAt b 1 1 / 64
          ∧ (c.slot4 = true ↔ beAt b 2 1 % 2 = 1) ∧ c.retries = min 3 (beAt b 3 1)
          ∧ c.zeros = ⟨(BitVec.ofNat 24 (beAt b 4 3)).toInt, (BitVec.ofNat 24 (beAt b 7 3)).toInt,
              (BitVec.ofNat 24 (beAt b 10 3)).toInt, (BitVec.ofNat 24 (beAt b 13 3)).toInt⟩
          ∧ c.gains = ⟨max 1 (beAt b 16 2 : Int), max 1 (beAt b 18 2 : Int), max 1 (beAt b 20 2 : Int), max 1 (beAt b 22 2 : Int)⟩
          ∧ c.span = beAt b 24 2 ∧ c.zeroLimit = beAt b 26 2 ∧ (∀ i : Fin 4, c.tare[i.val] = beAt b (28 + 2 * i.val) 2)
          ∧ (∀ t : Fin 16, c.tolerance[t.val] = ⟨beAt b (36 + 3 * t.val) 2, beAt b (38 + 3 * t.val) 1⟩)
          ∧ c.minGross = min 2000000 (max 1 (beAt b 84 3)) ∧ c.latLimit = min 1000 (beAt b 88 2)
          ∧ c.longLimit = min 1000 (beAt b 90 2) ∧ c.mu = max 1 (beAt b 92 2) ∧ c.deckOffset = beAt b 94 2
          ∧ c.mastMax.toNat = beAt b 96 2 ∧ c.bottomTarget.toNat = beAt b 98 2 ∧ c.countsPerRev = max 100 (beAt b 100 2)
          ∧ c.parkAngle.toNat = beAt b 102 2 ∧ c.forceGain = beAt b 104 2 ∧ c.applyOffset.toNat = beAt b 106 2
          ∧ c.cutTime = max 1 (beAt b 108 1) ∧ c.tRead = max 1 (beAt b 110 1) ∧ c.tManifest = max 1 (beAt b 111 1)
          ∧ c.tTransfer = max 1 (beAt b 112 1) ∧ c.tExit = max 1 (beAt b 113 1) ∧ c.tSettle = max 1 (beAt b 114 1)
          ∧ c.tPrint = max 1 (beAt b 115 1) ∧ c.tApply = max 1 (beAt b 116 1)
          ∧ c.tClaim = max (max 1 (beAt b 117 1)) ((c.tExit + 9) / 10 + 5) ∧ c.tWait = max 1 (beAt b 118 1)
          ∧ ∀ k : Fin 4, c.classes[k.val] = ⟨beAt b (120 + 8 * k.val) 1 % 16, beAt b (120 + 8 * k.val) 1 / 16,
              decide (beAt b (121 + 8 * k.val) 1 % 2 = 1), beAt b (122 + 8 * k.val) 1, beAt b (124 + 8 * k.val) 2,
              beAt b (126 + 8 * k.val) 2⟩)

/-- LANE_LAMP (R180): the phases of each lane state, begun anew with the lamp on in each event that changes the lane
state; on in RUNNING, off in CONFIG and at start-up; changed by nothing else. That LANE_LAMP_PHASE, given before its
instant, moves the clock to it (expiresAt) is the model's choice (log 4). -/
def Obligations.LampPhases : Prop :=
  (∀ (s : State) (since : Ms) (p : Nat), s.mon.lampSince = some since →
    (s.mon.lane, s.mon.lamp, p) ∈ [(LaneState.unconfigured, true, 125), (.unconfigured, false, 125), (.stopped, true, 250),
      (.stopped, false, 1750), (.stopping, true, 500), (.stopping, false, 500), (.fault, true, 250), (.fault, false, 250)] →
    ∃ t, exec .laneLampPhase s = .next t ∧ expiresAt s t since p
      ∧ (s.mon.lane ≠ .stopping → t.mon.lane = s.mon.lane)
      ∧ (t.mon.lane = s.mon.lane → t.mon.lamp = !s.mon.lamp ∧ t.mon.lampSince = some t.clock))
    ∧ (∀ (c : Instr) (s t : State), exec c s = .next t → t.mon.lane ≠ s.mon.lane → t.mon.lane ≠ .config →
        t.mon.lamp = true ∧ t.mon.lampSince = some t.clock)
    ∧ (∀ (c : Instr) (s t : State), exec c s = .next t → t.mon.lane = s.mon.lane → c ≠ .laneLampPhase →
        startsUp c = false → t.mon.lamp = s.mon.lamp ∧ t.mon.lampSince = s.mon.lampSince)
    ∧ (∀ (c : Instr) (s t : State), (s.mon.lane = .running → s.mon.lamp = true) → (s.mon.lane = .config → s.mon.lamp = false) →
        exec c s = .next t → (t.mon.lane = .running → t.mon.lamp = true) ∧ (t.mon.lane = .config → t.mon.lamp = false))
    ∧ State.reset.mon.lane = .config ∧ State.reset.mon.lamp = false

/-! ## The zones (chapter 1) -/

/-- IN_ARRIVAL: the new record of R4 and the read request of R29 (R9). EYE_EDGE_NO_EFFECT: an edge that completes
nothing and brings no arrival changes the level alone, but for the starts it makes possible (R3, R9, R14, R18,
R20). That an eye given the level it has already is no edge and does nothing is the model's choice (log 6). -/
def Obligations.EyeEdges : Prop :=
  (∀ s : State, s.working = true → s.zone zIn = .empty → s.eye zIn = false →
    ∃ t, exec .inArrival s = .next t ∧ t.pallet zIn = some (PalletRecord.fresh s.track.tagCounter zIn s.clock false)
      ∧ t.zone zIn = .occupied ∧ t.eye zIn = true ∧ t.track.tagCounter = s.track.tagCounter + 1
      ∧ t.track.issued = min 65535 (s.track.issued + 1) ∧ t.read = ⟨some s.track.tagCounter, some s.clock⟩
      ∧ t.out.tagTx = some s.track.tagCounter ∧ t.cache = s.cache ∧ t.view = s.view ∧ t.bed = s.bed ∧ t.ring = s.ring
      ∧ t.mon.faults = s.mon.faults ∧ t.clock = s.clock)
    ∧ ((∀ (s : State) (e : Eye) (b : Bool), s.working = true → s.eyeLevel e = b →
      exec (.eyeEdgeNoEffect e b) s = .next s.finish)
    ∧ (∀ (s : State) (e : Eye) (b : Bool), s.working = true → s.eyeLevel e ≠ b →
    (match e, b with
      | .zone z, true => (z = zIn → s.zone zIn ≠ .empty) ∧ ∀ y : Fin 8, z = dstZone y → (s.transfer y).isRunning = false
      | .reject, true => s.seq.reject.isRunning = false
      | .exit, false => s.seq.exit = .idle
      | _, _ => True) →
    exec (.eyeEdgeNoEffect e b) s = .next (s.setEye e b).finish))

/-- TRANSFER_START: R11's conditions, and its effect with both drives on (R2). -/
def Obligations.TransferStarts : Prop :=
  ∀ (s : State) (z : Fin 8), s.mon.lane = .running → s.zone (srcZone z) = .ready → s.zone (dstZone z) = .empty →
    s.eye (dstZone z) = false → (z = 1 ∨ z = 2 → s.rollersAllowed = true) → (z = 2 → s.consents = true) →
    (z = 4 → ∃ p, s.pallet zDivert = some p ∧ p.reasons = 0) →
    ∃ t, exec (.transferStart z) s = .next t ∧ t.zone (srcZone z) = .departing ∧ t.zone (dstZone z) = .arriving
      ∧ t.transfer z = .running s.clock ∧ t.out.zoneDrive[z.val] = true ∧ t.out.zoneDrive[z.val + 1] = true
      ∧ startsKeep s t

/-- TRANSFER_COMPLETE: the record moves one zone on, the source zone is free; a source eye still blocked is an
OVERLENGTH of the source zone (R12). -/
def Obligations.TransferCompletes : Prop :=
  (∀ (s : State) (z : Fin 8) (p : PalletRecord) (since : Ms), s.working = true → s.transfer z = .running since →
    s.eye (dstZone z) = false → s.pallet (srcZone z) = some p →
    ∃ t, exec (.transferComplete z) s = .next t ∧ t.pallet (srcZone z) = none ∧ t.transfer z = .idle
      ∧ (t.zone (srcZone z) = .empty ∨ t.zone (srcZone z) = .arriving) ∧ t.eye (dstZone z) = true
      ∧ (∃ q, t.pallet (dstZone z) = some q ∧ samePallet p q ∧ q.zone = (dstZone z).castSucc)
      ∧ t.cache = s.cache ∧ t.view = s.view ∧ t.bed = s.bed ∧ t.ring = s.ring)
    ∧ (∀ (s : State) (z : Fin 8) (p : PalletRecord) (since : Ms), live s → s.transfer z = .running since →
    s.eye (dstZone z) = false → s.pallet (srcZone z) = some p → s.eye (srcZone z) = true → s.mon.faults.length ≤ 6 →
    ∃ t, exec (.transferComplete z) s = .next t ∧ listedPresent t .overlength (some ((srcZone z).castLE (by decide)))
      ∧ t.mon.lane = .fault ∧ ∃ q, t.pallet (dstZone z) = some q ∧ samePallet p q)

/-- TRANSFER_TIMEOUT, REJECT_TRANSFER_TIMEOUT and EXIT_TIMEOUT: JAM(z + 1), JAM(10) or EXIT_TIMEOUT takes the lane to FAULT,
the motion is abandoned and the record stays (R13, R14, R18, R21). TURNTABLE_STALL_TIMEOUT: the driven table without a pulse
for 2.0 s; the wrap is aborted (R88, R109). Expiries of one instant are all raised: the first stops the others' timers, and
the others are then listed in FAULT (R174, R109, 9.8); which of them are of that instant is the model's bookkeeping (log
30), and a running stall timer has no expiry noted beside it (the invariant stallFits). The clock's move to the expiry
(expiresAt) is the model's choice (log 4). That a step with an empty queue is one millisecond of the clock at which each due
expiry is taken, as the last clause has it, is the model's choice (log 3). -/
def Obligations.MotionTimeouts : Prop :=
  ((∀ (s : State) (z : Fin 8) (since : Ms), live s → s.transfer z = .running since → room s →
      unlisted s .jam (some ((dstZone z).castLE (by decide))) →
      ∃ t, exec (.transferTimeout z) s = .next t ∧ expiresAt s t since (100 * s.cfg.tTransfer) ∧ t.mon.lane = .fault
        ∧ t.mon.faults = s.mon.faults ++ [⟨.jam, some ((dstZone z).castLE (by decide)), 1, t.clock, true⟩]
        ∧ t.transfer z = .abandoned none
        ∧ (∀ y since', y ≠ z → s.transfer y = .running since' → t.transfer y = .abandoned
            (if 100 * s.cfg.tTransfer ≤ (t.clock - since').toNat then some t.clock else none))
        ∧ (∀ p, s.pallet (srcZone z) = some p → ∃ q, t.pallet (srcZone z) = some q ∧ samePallet p q))
    ∧ (∀ (s : State) (since : Ms), live s → s.seq.reject = .running since → room s → unlisted s .jam (some 10) →
      ∃ t, exec .rejectTransferTimeout s = .next t ∧ expiresAt s t since (100 * s.cfg.tTransfer) ∧ t.mon.lane = .fault
        ∧ t.mon.faults = s.mon.faults ++ [⟨.jam, some 10, 1, t.clock, true⟩] ∧ t.seq.reject = .abandoned none)
    ∧ ∀ (s : State) (since : Ms), live s → s.seq.exit = .running since → room s → unlisted s .exitTimeout (some 9) →
      s.frontStage = some .exiting →
      ∃ t, exec .exitTimeout s = .next t ∧ expiresAt s t since (100 * s.cfg.tExit) ∧ t.mon.lane = .fault
        ∧ t.mon.faults = s.mon.faults ++ [⟨.exitTimeout, some 9, 1, t.clock, true⟩] ∧ t.seq.exit = .abandoned none
        ∧ t.frontStage = some .exiting)
    ∧ (∀ (s : State) (p : PalletRecord) (since : Ms), live s → s.wrap.stall = some since → s.wrap.stallDue ≠ some s.clock →
    s.wrap.state.inProgress = true → room s → s.pallet zTable = some p → s.zone zTable = .occupied →
    ∃ t, exec .turntableStallTimeout s = .next t ∧ expiresAt s t since 2000 ∧ t.mon.lane = .fault
      ∧ listedPresent t .turntableStall (some 2) ∧ t.wrap.state = .aborted ∧ t.wrap.turntable = false
      ∧ t.wrap.stall = none ∧ t.wrap.carriageUp = false ∧ t.wrap.carriageDown = false ∧ t.wrap.cutter = false
      ∧ t.wrap.filmClamp = false ∧ t.wrap.capture = none
      ∧ ∃ q, t.pallet zTable = some q ∧ samePallet p q ∧ q.wrap = .aborted ∧ hasReason q.reasons .wrapFailed = true)
    ∧ (∀ (s : State) (c : Instr) (k : FaultKind) (z : Option (Fin 11)), s.mon.lane = .fault → room s → unlisted s k z →
      ((∃ y, c = .transferTimeout y ∧ s.transfer y = .abandoned (some s.clock) ∧ k = .jam
            ∧ z = some ((dstZone y).castLE (by decide)))
        ∨ (c = .rejectTransferTimeout ∧ s.seq.reject = .abandoned (some s.clock) ∧ k = .jam ∧ z = some 10)
        ∨ (c = .exitTimeout ∧ s.seq.exit = .abandoned (some s.clock) ∧ k = .exitTimeout ∧ z = some 9)
        ∨ (c = .turntableStallTimeout ∧ s.wrap.stallDue = some s.clock ∧ k = .turntableStall ∧ z = some 2)) →
      ∃ t, exec c s = .next t ∧ t.mon.lane = .fault ∧ t.clock = s.clock
        ∧ t.mon.faults = s.mon.faults ++ [⟨k, z, 1, s.clock, true⟩])
    ∧ (∀ (s : State) (y z : Fin 8) (a b : Ms), s.pending = [] → s.inp.resetPin = false → live s → y < z →
      s.transfer y = .running a → s.transfer z = .running b →
      { s with clock := s.clock + 1 }.dueCommands = [.transferTimeout y, .transferTimeout z] → s.mon.faults.length ≤ 6 →
      ∃ t, step s = .next t ∧ listedPresent t .jam (some ((dstZone y).castLE (by decide)))
        ∧ listedPresent t .jam (some ((dstZone z).castLE (by decide))) ∧ t.mon.lane = .fault)

/-- REJECT_TRANSFER_START, with a place of the Sequence queue free or already reserved for the record, and
REJECT_TRANSFER_COMPLETE (R17, R18): the record leaves the track, is counted out of its load
(R145), and its dispatch record is appended, to a full ring too (R182, R184). -/
def Obligations.RejectTransfer : Prop :=
  (∀ (s : State) (p : PalletRecord), s.mon.lane = .running → s.zone zDivert = .ready → s.inp.rejectEye = false →
      s.pallet zDivert = some p → p.reasons ≠ 0 → (p.manifest = none ∨ s.tx.rejectReserved = true ∨ 0 < s.seqFree) →
      ∃ t, exec (.rejectTransferStart false) s = .next t ∧ t.seq.reject = .running s.clock ∧ t.zone zDivert = .departing
        ∧ t.out.rejectOut = true ∧ t.out.zoneDrive[4] = true ∧ (p.manifest.isSome = true → t.tx.rejectReserved = true)
        ∧ startsKeep { s with inp := { s.inp with rejectFull := false } } t)
    ∧ ∀ (s : State) (p : PalletRecord) (since : Ms), s.working = true → s.seq.reject = .running since →
      s.inp.rejectEye = false → s.pallet zDivert = some p →
      ∃ t, exec .rejectTransferComplete s = .next t ∧ t.pallet zDivert = none ∧ t.seq.reject = .idle
        ∧ (t.zone zDivert = .empty ∨ t.zone zDivert = .arriving) ∧ t.tx.rejectReserved = false
        ∧ ringTakes s t (dispatchRecord p .rejected s.clock) ∧ countsOut s t p
        ∧ ∀ m, p.manifest = some m → s.tx.rejectReserved = true → .withdrawn m.load m.seq p.reasons ∈ t.tx.sequence

/-- EXIT_START and EXIT_COMPLETE (R19, R20, R158, R159). -/
def Obligations.ExitOfFront : Prop :=
  (∀ (s : State), s.mon.lane = .running → s.zone zFront = .ready → s.frontStage = some .claimWon →
      ∃ t, exec (.exitStart true) s = .next t ∧ t.seq.exit = .running s.clock ∧ t.zone zFront = .departing
        ∧ t.frontStage = some .exiting ∧ t.out.exitOut = true ∧ t.out.zoneDrive[8] = true
        ∧ startsKeep { s with inp := { s.inp with mergeClear := true } } t)
    ∧ ∀ (s : State) (p : PalletRecord) (m : Manifest), s.working = true → s.inp.exitEye = true → s.seq.exit ≠ .idle →
      s.pallet zFront = some p → p.manifest = some m → s.rel.followUp = true →
      ∃ t, exec .exitComplete s = .next t ∧ t.track.exitSlot = some { p with zone := 9, stage := .exited }
        ∧ t.pallet zFront = none ∧ (t.zone zFront = .empty ∨ t.zone zFront = .arriving) ∧ t.seq.exit = .idle
        ∧ t.tx.sequence = s.tx.sequence ++ [.released m.load m.seq] ∧ t.rel.followUp = false ∧ t.ring = s.ring

/-! ## Identification (chapter 2) -/

/-- A read is resolved as NO_READ by the reply, by ident 0, or by T_read: the record gets UNKNOWN and IN is READY. A
reply with no read outstanding, and one that the link cannot decode, are discarded (R30). The clock's move to the expiry of
T_read (expiresAt) is the model's choice (log 4). -/
def Obligations.ReadResolves : Prop :=
  ((∀ (s : State) (tag : BitVec 8) (p : PalletRecord) (r : TagReply), s.working = true → s.read.awaiting = some tag →
      s.pallet zIn = some p → (r = .noRead ∨ r = .read 0) →
      ∃ t, exec (.tagReply r) s = .next t ∧ t.read = ⟨none, none⟩ ∧ t.pallet zIn = some (p.addReason .unknown)
        ∧ (t.zone zIn = .ready ∨ t.zone zIn = .departing) ∧ t.cache = s.cache ∧ t.view = s.view
        ∧ t.tracker.map (·.ident) = s.tracker.map (·.ident))
    ∧ ∀ (s : State) (tag : BitVec 8) (p : PalletRecord) (since : Ms), s.working = true → s.read = ⟨some tag, some since⟩ →
      s.pallet zIn = some p →
      ∃ t, exec .tagReadTimeout s = .next t ∧ expiresAt s t since (100 * s.cfg.tRead) ∧ t.read = ⟨none, none⟩
        ∧ t.pallet zIn = some (p.addReason .unknown) ∧ (t.zone zIn = .ready ∨ t.zone zIn = .departing))
    ∧ (∀ (s : State) (r : TagReply), s.working = true → (s.read.awaiting = none ∨ r = .undecodable) →
    exec (.tagReply r) s = .next s.finish)

/-- A read ident: a duplicate on the track, a hit that is consumed, or a miss that takes a tracker entry (R31, R38 to
R40). A hit counts the pallet in its load's entry, which it touches, or creates with count 1 (R143, R144). -/
def Obligations.TagReadIdentifies : Prop :=
  ∀ (s : State) (tag : BitVec 8) (p : PalletRecord) (ident : BitVec 32), s.working = true →
    s.read.awaiting = some tag → s.pallet zIn = some p → ident ≠ 0 →
    (((∃ (z : Fin 9) (q : PalletRecord), z ≠ zIn ∧ s.pallet z = some q ∧ q.ident = some ident)
        ∨ ∃ q, s.track.exitSlot = some q ∧ q.ident = some ident) →
      ∃ t, exec (.tagReply (.read ident)) s = .next t ∧ t.read = ⟨none, none⟩ ∧ t.cache = s.cache
        ∧ t.pallet zIn = some ({ p with ident := some ident }.addReason .duplicate))
    ∧ (s.identElsewhere zIn ident = false → ∀ w : Fin 4, s.lookup ident = some w →
      ∃ t, exec (.tagReply (.read ident)) s = .next t ∧ t.read = ⟨none, none⟩
        ∧ t.pallet zIn = some { p with
            ident := some ident, manifest := some ((s.cacheSet (setOf ident)).ways[w.val]).manifest }
        ∧ ((t.cacheSet (setOf ident)).ways[w.val]).valid = false
        ∧ ∀ m, m = ((s.cacheSet (setOf ident)).ways[w.val]).manifest →
          (∀ e, s.loadEntry m.load = some e → t.view.entries.head? = some { e with count := e.count + 1 })
          ∧ (s.loadEntry m.load = none → viewFits s →
              createdIn s t ⟨m.load, min 256 (max 1 m.issueNext.toNat), m.total, none, 1, false⟩))
    ∧ (s.identElsewhere zIn ident = false → s.lookup ident = none → s.tracker.length < 2 →
      ∃ t, exec (.tagReply (.read ident)) s = .next t ∧ t.read = ⟨none, none⟩ ∧ t.cache = s.cache
        ∧ t.pallet zIn = some { p with ident := some ident }
        ∧ ∃ e ∈ t.tracker, e.ident = ident ∧ e.tag = tag ∧ e.retries = s.cfg.retries ∧ e.tManifest = none)

/-- A Manifest that fails the content check is a line error and changes no more than its reception does (received), but
for the starts that end every event; one that passes
is stored under its ident, a unit mass of 0 as 1, moves its load's entry or creates it, in a full list in place of the least
recently touched entry with count 0, and is delivered to the record that waits for it (R33, R35, R37, R44, R45, R143,
R144). -/
def Obligations.ManifestTaken : Prop :=
  ((∀ (s : State) (src : Station) (dst : BitVec 4) (m : Manifest), s.working = true → offered s src dst →
      manifestOk m = false →
      ∃ t, exec (.manifest src dst m) s = .next t ∧ t = (received s src (min 65535 (s.line.lineErrors + 1))).finish
        ∧ t.line.lineErrors = min 65535 (s.line.lineErrors + 1)
        ∧ t.line.lastSender = src ∧ t.cache = s.cache ∧ t.view = s.view ∧ t.mon.faults = s.mon.faults ∧ t.bed = s.bed)
    ∧ ∀ (s : State) (src : Station) (dst : BitVec 4) (m : Manifest), s.working = true → offered s src dst →
      m.ident ≠ 0 → m.load ≠ 0 → m.seq ≠ 0 → m.seq.toNat ≤ m.total.toNat → 1 ≤ m.issueNext.toNat →
      m.issueNext.toNat ≤ 256 → (∀ e ∈ s.tracker, e.ident ≠ m.ident) →
      ∃ t w, exec (.manifest src dst m) s = .next t ∧ t.lookup m.ident = some w
        ∧ ((t.cacheSet (setOf m.ident)).ways[w.val]).manifest = { m with unitMass := if m.unitMass = 0 then 1 else m.unitMass }
        ∧ (∀ i, i ≠ setOf m.ident → t.cacheSet i = s.cacheSet i) ∧ t.line.lastSender = src
        ∧ (∀ e, s.loadEntry m.load = some e → e.next ≤ 256 →
            t.loadEntry m.load = some { e with next := max e.next m.issueNext.toNat, total := m.total }
              ∧ (e.next < m.issueNext.toNat → t.view.entries.head? = t.loadEntry m.load))
        ∧ (s.loadEntry m.load = none → viewFits s →
            createdIn s t ⟨m.load, m.issueNext.toNat, m.total, none, 0, false⟩))
    ∧ (∀ (s : State) (src : Station) (dst : BitVec 4) (m : Manifest) (e : TrackEntry) (z : Fin 9) (p : PalletRecord),
    s.working = true → offered s src dst → manifestOk m = true → m.unitMass ≠ 0 → s.entryForIdent m.ident = some e →
    s.zoneOfTag e.tag = some z → s.pallet z = some p →
    ∃ t, exec (.manifest src dst m) s = .next t ∧ (∀ x ∈ t.tracker, x.tag ≠ e.tag)
      ∧ ∃ q, t.pallet z = some q ∧ q.tag = p.tag ∧ q.ident = p.ident ∧ q.manifest = some m)

/-- MANIFEST_VOID: no valid entry holds the ident any more, a tracker entry that holds it is freed with its request, which
is removed, or marked where it is in flight (R45), each record in the zones with the ident that has not begun its exit gets
VOIDED, and a FRONT record's claim is taken back: a queued Claim leaves the Sequence queue, or is marked where it is in
flight, and a won one's Abandon joins in the follow-up place (R47, R48, R138, R157, R160). A Stalled notice of the same
instant may take a freed place that a start waits for (queueIs, R137; log 33). -/
def Obligations.ManifestVoided : Prop :=
  ∀ (s : State) (src : Station) (dst : BitVec 4) (ident : BitVec 32), s.working = true → offered s src dst → cacheFits s →
    ∃ t, exec (.manifestVoid src dst ident) s = .next t ∧ t.lookup ident = none ∧ t.line.lastSender = src
      ∧ (∀ (z : Fin 9) (p : PalletRecord), s.pallet z = some p → p.ident = some ident →
          p.stage = .waiting ∨ p.stage = .claimQueued ∨ p.stage = .claimWon →
          ∃ q, t.pallet z = some q ∧ samePallet p q ∧ hasReason q.reasons .voided = true
            ∧ (z = zFront → q.stage = .waiting))
      ∧ (∀ p, s.pallet zFront = some p → p.ident = some ident →
          (p.stage = .claimQueued → s.claimInFlight = false →
            queueIs s t (s.tx.sequence.filter (fun n => !n.isClaim)) ∧ t.rel.followUp = false)
          ∧ (p.stage = .claimQueued → s.claimInFlight = true →
            t.tx.sequence = s.tx.sequence ∧ t.rel.followUp = s.rel.followUp ∧ t.line.marked = true)
          ∧ (∀ m, p.stage = .claimWon → p.manifest = some m → s.rel.followUp = true →
            t.tx.sequence = s.tx.sequence ++ [.abandon m.load m.seq] ∧ t.rel.followUp = false))
      ∧ (∀ e, s.entryForIdent ident = some e →
          t.tracker.map (·.tag) = (s.tracker.filter (·.tag != e.tag)).map (·.tag)
            ∧ (∀ x, .manifestRequest x e.tag ∈ t.tx.request → s.requestInFlight e.tag = true)
            ∧ (s.requestInFlight e.tag = true → t.line.marked = true))
      ∧ (s.entryForIdent ident = none → t.tracker.map (·.tag) = s.tracker.map (·.tag))
      ∧ t.view = s.view ∧ t.mon.faults = s.mon.faults ∧ t.ring = s.ring

/-- MANIFEST_REQUEST_JOIN: the first waiting request joins the Request queue where it has a place (R40).
MANIFEST_TIMEOUT: with retries left the request is to join again, and joins in the same event where the Request queue has a
place and no other request waits; with none the record gets UNKNOWN and the entry is
freed (R43). The clock's move to the expiry of T_manifest (expiresAt) is the model's choice (log 4). -/
def Obligations.RequestJoinsAndExpires : Prop :=
  (∀ (s : State) (before after : List TrackEntry) (e : TrackEntry), s.working = true →
    s.tracker = before ++ e :: after → (∀ x ∈ before, x.joined = true) → e.joined = false → s.tx.request.length < 2 →
    ∃ t, exec .manifestRequestJoin s = .next t ∧ (s.tx.request ++ [.manifestRequest e.ident e.tag]) <+: t.tx.request
      ∧ (∃ x ∈ t.tracker, x.tag = e.tag ∧ x.ident = e.ident ∧ x.joined = true) ∧ startsKeep s t)
    ∧ (∀ (s : State) (tag : BitVec 8) (e : TrackEntry) (since : Ms), s.working = true → s.entryOf tag = some e →
    e.tManifest = some since →
    (0 < e.retries →
      ∃ t, exec (.manifestTimeout tag) s = .next t ∧ expiresAt s t since (100 * s.cfg.tManifest)
        ∧ ∃ x ∈ t.tracker, x.tag = tag ∧ x.ident = e.ident ∧ x.retries = e.retries - 1 ∧ x.tManifest = none
          ∧ (x.joined = false ∨ .manifestRequest e.ident tag ∈ t.tx.request.drop s.tx.request.length)
          ∧ (s.tx.request.length < 2 → s.tracker.filter (·.tag == tag) = [e] → (∀ y ∈ s.tracker, y.tag = tag ∨ y.joined = true) →
              x.joined = true ∧ t.tx.request = s.tx.request ++ [.manifestRequest e.ident tag]))
    ∧ (e.retries = 0 →
      ∃ t, exec (.manifestTimeout tag) s = .next t ∧ expiresAt s t since (100 * s.cfg.tManifest)
        ∧ (∀ x ∈ t.tracker, x.tag ≠ tag)
        ∧ ∀ (z : Fin 9) (p : PalletRecord), s.zoneOfTag tag = some z → s.pallet z = some p →
            ∃ q, t.pallet z = some q ∧ samePallet p q ∧ hasReason q.reasons .unknown = true))

/-- Every write of an entry points the replacement bits away from the way written; lookups, consumption, Void and a
probe leave the bits; an invalid way is filled before the bits are asked (R35, R36). MANIFEST stores into the set of its
ident in just this way. -/
def Obligations.ReplacementBits : Prop :=
  (∀ (c : CacheSet) (m : Manifest),
      (c.target m.ident = 0 → (c.store m).b0 = true ∧ (c.store m).b1 = true ∧ (c.store m).b2 = c.b2)
        ∧ (c.target m.ident = 1 → (c.store m).b0 = true ∧ (c.store m).b1 = false ∧ (c.store m).b2 = c.b2)
        ∧ (c.target m.ident = 2 → (c.store m).b0 = false ∧ (c.store m).b1 = c.b1 ∧ (c.store m).b2 = true)
        ∧ (c.target m.ident = 3 → (c.store m).b0 = false ∧ (c.store m).b1 = c.b1 ∧ (c.store m).b2 = false)
        ∧ ((c.store m).ways[(c.target m.ident).val] = ⟨true, m.ident, m⟩)
        ∧ ∀ w : Fin 4, w ≠ c.target m.ident → (c.store m).ways[w.val] = c.ways[w.val])
    ∧ (∀ (c : CacheSet) (ident : BitVec 32) (w : Fin 4), c.findWay ident = none → (c.ways[w.val]).valid = false →
        (∀ v : Fin 4, v < w → (c.ways[v.val]).valid = true) → c.target ident = w)
    ∧ (∀ (c : CacheSet) (ident : BitVec 32) (w : Fin 4), (c.ways[w.val]).valid = true → (c.ways[w.val]).ident = ident →
        (∀ v : Fin 4, (c.ways[v.val]).valid = true → (c.ways[v.val]).ident = ident → v = w) → c.target ident = w)
    ∧ (∀ (c : CacheSet) (ident : BitVec 32), (∀ v : Fin 4, (c.ways[v.val]).valid = true ∧ (c.ways[v.val]).ident ≠ ident) →
        c.target ident = (if c.b0 = false then (if c.b1 = false then 0 else 1) else (if c.b2 = false then 2 else 3)))
    ∧ (∀ (c : CacheSet) (w : Fin 4), (c.invalidate w).b0 = c.b0 ∧ (c.invalidate w).b1 = c.b1 ∧ (c.invalidate w).b2 = c.b2)
    ∧ (∀ (s : State) (src : Station) (dst : BitVec 4) (m : Manifest), s.working = true → offered s src dst →
        manifestOk m = true → ∃ t c, exec (.manifest src dst m) s = .next t
          ∧ c = (s.cacheSet (setOf m.ident)).store { m with unitMass := if m.unitMass = 0 then 1 else m.unitMass }
          ∧ (t.cacheSet (setOf m.ident)).b0 = c.b0 ∧ (t.cacheSet (setOf m.ident)).b1 = c.b1
          ∧ (t.cacheSet (setOf m.ident)).b2 = c.b2
          ∧ ((∀ e ∈ s.tracker, e.ident ≠ m.ident) → t.cacheSet (setOf m.ident) = c))
    ∧ ∀ (c : Instr) (s t : State) (i : Fin 16), exec c s = .next t →
        ((∃ r, c = .tagReply r) ∨ (∃ src dst x, c = .manifestVoid src dst x) ∨ (∃ src dst x, c = .statusProbe src dst x)) →
        (t.cacheSet i).b0 = (s.cacheSet i).b0 ∧ (t.cacheSet i).b1 = (s.cacheSet i).b1 ∧ (t.cacheSet i).b2 = (s.cacheSet i).b2

/-! ## The weigh bed (chapter 3) -/

/-- The consecutive-miss counts, at the judgement of the slot in turn: incremented at a missed judgement up to 255, back to
0 at a valid one, 0 at start-up, kept through lane restart, 0 for a disabled slot 4 (R51, R55). -/
def Obligations.MissCounts : Prop :=
  (∀ (s : State) (i : Fin 5) (bits : BitVec 26), s.working = true → s.bed.slot.val = i.val →
      (i = 4 → s.cfg.slot4 = true) → (bits = BitVec.allOnes 26 ∨ bits.getLsbD 1 = false) →
      ∃ t, exec (.bedSlotJudged i bits) s = .next t ∧ t.missCount i = min 255 (s.missCount i + 1)
        ∧ (∀ j, j ≠ i → t.missCount j = s.missCount j) ∧ t.bed.held = s.bed.held)
    ∧ (∀ (s : State) (i : Fin 5) (bits : BitVec 26), s.working = true → s.bed.slot.val = i.val →
      (i = 4 → s.cfg.slot4 = true) → bits ≠ BitVec.allOnes 26 → bits.getLsbD 1 = true →
      ∃ t, exec (.bedSlotJudged i bits) s = .next t ∧ t.missCount i = 0
        ∧ (∀ j, j ≠ i → t.missCount j = s.missCount j)
        ∧ t.bed.held = s.bed.held.set i.val (bits.extractLsb' 2 24) i.isLt)
    ∧ (∀ i, State.reset.missCount i = 0)
    ∧ (∀ (s t : State) (o : Origin) (i : Fin 5), exec (.restart o) s = .next t → t.missCount i = s.missCount i)
    ∧ ∀ (c : Instr) (s t : State), s.cfg.slot4 = false → s.missCount 4 = 0 → exec c s = .next t → t.cfg.slot4 = false →
        t.missCount 4 = 0

/-- A count that goes from 63 to 64 raises CELL_LOST with BED, or FORCE_LOST with TABLE for slot 4, and no other miss
raises a fault; CELL_LOST's cause ends when every corner's count is 0, FORCE_LOST's at slot 4's valid judgement
(R56, R57). -/
def Obligations.LostCells : Prop :=
  (∀ (s : State) (i : Fin 5) (bits : BitVec 26), s.working = true → s.bed.slot.val = i.val →
    (i = 4 → s.cfg.slot4 = true) → (bits = BitVec.allOnes 26 ∨ bits.getLsbD 1 = false) → room s →
    (s.missCount i = 63 → unlisted s .cellLost (some 1) → unlisted s .forceLost (some 2) →
      ∃ t, exec (.bedSlotJudged i bits) s = .next t
        ∧ t.mon.faults = s.mon.faults ++
          [if i = 4 then ⟨.forceLost, some 2, 1, s.clock, true⟩ else ⟨.cellLost, some 1, 1, s.clock, true⟩])
    ∧ (s.missCount i ≠ 63 → ∃ t, exec (.bedSlotJudged i bits) s = .next t ∧ t.mon.faults = s.mon.faults))
    ∧ (∀ (s : State) (i : Fin 5) (bits : BitVec 26), s.working = true → s.bed.slot.val = i.val →
    bits ≠ BitVec.allOnes 26 → bits.getLsbD 1 = true →
    (i = 4 → s.cfg.slot4 = true →
      ∃ t, exec (.bedSlotJudged i bits) s = .next t ∧ (∀ e ∈ t.mon.faults, e.kind = .forceLost → e.present = false))
    ∧ (i ≠ 4 → (∀ j : Fin 5, j ≠ 4 → j ≠ i → s.missCount j = 0) →
      ∃ t, exec (.bedSlotJudged i bits) s = .next t ∧ (∀ e ∈ t.mon.faults, e.kind = .cellLost → e.present = false))
    ∧ (i ≠ 4 → (∃ j : Fin 5, j ≠ 4 ∧ j ≠ i ∧ s.missCount j ≠ 0) →
      ∃ t, exec (.bedSlotJudged i bits) s = .next t ∧ t.mon.faults = s.mon.faults))

/-- The slots of a frame are judged in order, and the frame completes when its enabled slots are judged (R50, R51, R53,
R54); a slot out of its turn, and a completion before that, do nothing, which is the model's choice (log 17). A frame that
completes while BED is in a transfer, or with a marked set, empties the window (R60); a stable window on an EMPTY bed is an
auto-zero comparison (R67). The film force of a frame moves the run counts of a wrap that monitors it: FILM_BREAK at eight
low frames, FORCE_HIGH at eight high ones; a class whose high level is 65535 never finds a high force (R105 to R107). A force
below the break level counts as low where it also exceeds the high level, by the model's choice (log 31). -/
def Obligations.FramesAndAutoZero : Prop :=
  (∀ (s : State) (i : Fin 5) (bits : BitVec 26), s.working = true →
    (s.bed.slot.val = i.val → (i = 4 → s.cfg.slot4 = true) →
      ∃ t, exec (.bedSlotJudged i bits) s = .next t ∧ t.bed.slot = i.succ
        ∧ t.bed.judged = s.bed.judged.set i.val (some (if bits = BitVec.allOnes 26 ∨ bits.getLsbD 1 = false then .missed
            else if bits.getLsbD 0 = true then .saturated else .good)) i.isLt)
    ∧ (s.bed.slot.val ≠ i.val ∨ (i = 4 ∧ s.cfg.slot4 = false) → exec (.bedSlotJudged i bits) s = .next s.finish))
    ∧ (∀ s : State, s.working = true → s.bed.slot.val ≠ (if s.cfg.slot4 = true then 5 else 4) →
      exec .bedFrameComplete s = .next s.finish)
    ∧ (∀ s : State, s.working = true → s.bed.slot.val = (if s.cfg.slot4 = true then 5 else 4) →
    (s.zone zBed = .arriving ∨ s.zone zBed = .departing ∨ s.bed.clean = false) →
    ∃ t, exec .bedFrameComplete s = .next t ∧ t.weigh.window = [] ∧ t.weigh.sumW = Corners.zero ∧ t.weigh.sumG = 0
      ∧ t.weigh.zb = s.weigh.zb ∧ t.bed = { s.bed with judged := Vector.replicate 5 none, slot := 0 })
    ∧ (∀ s : State, s.working = true → s.bed.slot.val = (if s.cfg.slot4 = true then 5 else 4) → s.zone zBed = .empty →
    s.bed.clean = true → s.acceptSet.windowStable = true →
    s.mon.faults.length ≤ 6 →
    ∃ t, exec .bedFrameComplete s = .next t ∧ t.weigh.window = [] ∧ t.weigh.sumG = 0
      ∧ (if s.acceptSet.windowMeans.gross.natAbs ≤ s.cfg.zeroLimit then t.weigh.zb = s.acceptSet.windowMeans.gross
          else t.weigh.zb = s.weigh.zb ∧ listedPresent t .bedNotZero (some 1)))
    ∧ (∀ (s : State) (force : Int), s.working = true → s.bed.slot.val = 5 → s.cfg.slot4 = true →
      s.bed.judged[4] ≠ some .missed → s.wrap.state ∈ [.bottom, .rise, .top, .descend] →
      force = (s.bed.held[4].toInt * s.cfg.forceGain).fdiv 65536 → s.mon.faults.length ≤ 6 →
      (force < s.wrapClass.breakLevel → s.wrap.lowRun < 7 →
        ∃ t, exec .bedFrameComplete s = .next t ∧ t.wrap.lowRun = s.wrap.lowRun + 1 ∧ t.wrap.highRun = 0
          ∧ t.wrap.state = s.wrap.state)
      ∧ (force < s.wrapClass.breakLevel → s.wrap.lowRun = 7 → live s → s.zone zTable ≠ .empty →
        ∃ t, exec .bedFrameComplete s = .next t ∧ listedPresent t .filmBreak (some 2) ∧ t.mon.lane = .fault
          ∧ t.wrap.state = .aborted ∧ t.wrap.lowRun = 0 ∧ t.wrap.highRun = 0)
      ∧ (s.wrapClass.breakLevel ≤ force → s.wrapClass.highLevel < force → s.wrapClass.highLevel ≠ 65535 →
        ∃ t, exec .bedFrameComplete s = .next t ∧ t.wrap.lowRun = 0 ∧ t.wrap.state = s.wrap.state
          ∧ (s.wrap.highRun < 7 → t.wrap.highRun = s.wrap.highRun + 1)
          ∧ (s.wrap.highRun = 7 → t.wrap.highRun = 0 ∧ listedPresent t .forceHigh (some 2)))
      ∧ (s.wrapClass.breakLevel ≤ force → (force ≤ s.wrapClass.highLevel ∨ s.wrapClass.highLevel = 65535) →
        ∃ t, exec .bedFrameComplete s = .next t ∧ t.wrap.lowRun = 0 ∧ t.wrap.highRun = 0 ∧ t.wrap.state = s.wrap.state))
    ∧ (∀ s : State, s.working = true → s.bed.slot.val = (if s.cfg.slot4 = true then 5 else 4) →
      s.wrap.state.inProgress = true →
      (s.cfg.slot4 = false ∨ s.bed.judged[4] = some .missed ∨ s.wrap.state ∉ [.bottom, .rise, .top, .descend]) →
      ∃ t, exec .bedFrameComplete s = .next t ∧ t.wrap = s.wrap)

/-- The first stable window of a weighing settles it, and the record with a manifest copy gets stages 1 to 6 of the
verdict from the window's means and Zb: gross, net, deviation, tolerance, weight reasons, case deviation, balance
offsets and OFF_CENTRE (R64, R69 to R78). -/
def Obligations.SettledWeighingGivesVerdict : Prop :=
  ∀ (s : State) (p : PalletRecord) (m : Manifest), s.working = true →
    s.bed.slot.val = (if s.cfg.slot4 = true then 5 else 4) → s.zone zBed = .occupied → s.weigh.state = .settling →
    s.bed.clean = true → s.acceptSet.windowStable = true → s.pallet zBed = some p →
    p.manifest = some m →
    ∃ t q, exec .bedFrameComplete s = .next t ∧ t.pallet zBed = some q
      ∧ (t.zone zBed = .ready ∨ t.zone zBed = .departing)
      ∧ q.gross = some (s.acceptSet.windowMeans.gross - s.weigh.zb)
      ∧ q.net = some (s.acceptSet.windowMeans.gross - s.weigh.zb - tareOf s.cfg m)
      ∧ q.deviation = some (s.acceptSet.windowMeans.gross - s.weigh.zb - tareOf s.cfg m
          - (m.cases.toNat : Int) * (m.unitMass.toNat : Int))
      ∧ q.verdictTime = some s.clock ∧ samePallet p q
      ∧ (∀ dev, q.deviation = some dev → q.caseDev = some (caseDeviation dev m.unitMass.toNat))
      ∧ (if (s.cfg.minGross : Int) ≤ s.acceptSet.windowMeans.means.total then
            q.lateral = some (lateralOffset s.acceptSet.windowMeans.means)
              ∧ q.longitudinal = some (longitudinalOffset s.acceptSet.windowMeans.means)
          else q.lateral = none ∧ q.longitudinal = none)
      ∧ (∀ net dev tol : Int, q.net = some net → q.deviation = some dev →
          tol = (toleranceOf s.cfg m).fixed
            + ((m.cases.toNat : Int) * (m.unitMass.toNat : Int) * (toleranceOf s.cfg m).perMille).fdiv 1000 →
          (hasReason q.reasons .under = true ↔ hasReason p.reasons .under = true ∨ dev < -tol ∨ net < 0)
            ∧ (hasReason q.reasons .over = true ↔ hasReason p.reasons .over = true ∨ tol < dev))
      ∧ (hasReason q.reasons .offCentre = true ↔ hasReason p.reasons .offCentre = true
          ∨ (∃ x, q.lateral = some x ∧ s.cfg.latLimit < x.natAbs) ∨ ∃ y, q.longitudinal = some y ∧ s.cfg.longLimit < y.natAbs)

/-- The two weight reasons on the net and the deviation, never both (R74); the balance offsets in per-mille of M toward
zero, within -1000..1000, positive when the right side or the front is heavier (R77). -/
def Obligations.WeightAndBalance : Prop :=
  (∀ net dev band : Int, 0 ≤ band →
    (hasReason (weightReasons net dev band) .under = true ↔ dev < -band ∨ net < 0)
      ∧ (hasReason (weightReasons net dev band) .over = true ↔ band < dev)
      ∧ (dev ≤ net → ¬(hasReason (weightReasons net dev band) .under = true
          ∧ hasReason (weightReasons net dev band) .over = true)))
    ∧ (∀ m : Corners, 0 < m.total →
    -1000 ≤ lateralOffset m ∧ lateralOffset m ≤ 1000 ∧ -1000 ≤ longitudinalOffset m ∧ longitudinalOffset m ≤ 1000
      ∧ (0 < lateralOffset m → m.c0 + m.c3 < m.c1 + m.c2) ∧ (0 < longitudinalOffset m → m.c2 + m.c3 < m.c0 + m.c1)
      ∧ (0 ≤ m.c0 → 0 ≤ m.c1 → 0 ≤ m.c2 → 0 ≤ m.c3 →
          lateralOffset m = (1000 * ((m.c1 + m.c2) - (m.c0 + m.c3))).tdiv m.total
            ∧ longitudinalOffset m = (1000 * ((m.c0 + m.c1) - (m.c2 + m.c3))).tdiv m.total))

/-- The case deviation is D / u to the nearest case, halves away from zero, within -128..127; an end value stands for that
many cases, or more, and for no quotient that rounds to less (R75). -/
def Obligations.CaseDeviationRounds : Prop :=
  (∀ d u : Int, 0 < u → -128 ≤ caseDeviation d u ∧ caseDeviation d u ≤ 127
      ∧ (-128 < caseDeviation d u → caseDeviation d u < 127 →
          2 * (d - caseDeviation d u * u).natAbs ≤ u.natAbs
            ∧ (2 * (d - caseDeviation d u * u).natAbs = u.natAbs → d.natAbs < (caseDeviation d u * u).natAbs))
      ∧ (255 * u ≤ 2 * d → caseDeviation d u = 127) ∧ (2 * d ≤ -257 * u → caseDeviation d u = -128)
      ∧ (caseDeviation d u = 127 → 253 * u ≤ 2 * d) ∧ (caseDeviation d u = -128 → 2 * d ≤ -255 * u))
    ∧ caseDeviation 5269 10540 = 0 ∧ caseDeviation 5270 10540 = 1 ∧ caseDeviation (-5270) 10540 = -1
    ∧ caseDeviation 15810 10540 = 2 ∧ caseDeviation 2000000 10540 = 127 ∧ caseDeviation (-1400000) 10540 = -128

/-- WEIGHING_START and SETTLE_TIMEOUT (R62, R63, R65). The clock's move to the expiry of T_settle (expiresAt) is the model's
choice (log 4). -/
def Obligations.WeighingStartsAndExpires : Prop :=
  (∀ s : State, s.working = true → s.weigh.state = .blocked → s.zone zBed = .occupied →
      (s.inp.runOn = true ∨ s.mon.overflow = false ∧ ∀ e ∈ s.mon.faults, e.kind ≠ .cellLost ∧ e.kind ≠ .bedNotZero) →
      ∃ t, exec .weighingStart s = .next t ∧ t.weigh.state = .settling ∧ t.weigh.window = [] ∧ t.weigh.sumG = 0
        ∧ t.weigh.settled = none ∧ t.weigh.tSettle = some s.clock ∧ startsKeep s t)
    ∧ ∀ (s : State) (p : PalletRecord) (since : Ms), s.working = true → s.weigh.state = .settling →
      s.weigh.tSettle = some since → s.pallet zBed = some p →
      ∃ t, exec .settleTimeout s = .next t ∧ expiresAt s t since (100 * s.cfg.tSettle)
        ∧ t.pallet zBed = some (p.addReason .unsettled) ∧ t.weigh.settled = none ∧ t.weigh.tSettle = none
        ∧ (t.weigh.state = .expired ∨ t.zone zBed = .departing)

/-! ## Wrapping (chapter 5) -/

/-- TURNTABLE_PULSE: the angle counts up modulo 65536 and the stall timer restarts; in PARK a match with the park angle
enters CUT. TURNTABLE_INDEX: the capture, the revolution count and the cleared angle; the count that ends BOTTOM or
TOP, the second index in PARK, and the slip check (R86 to R88, R90, R97, R100, R102, R103). -/
def Obligations.Turntable : Prop :=
  ((∀ s : State, s.working = true → (s.wrap.angleCmp.armed = false ∨ s.wrap.angleCmp.active ≠ s.wrap.angle + 1) →
      exec .turntablePulse s = .next { s with wrap := { s.wrap with
        angle := s.wrap.angle + 1, stall := s.wrap.stall.map (fun _ => s.clock) } }.finish)
    ∧ ∀ s : State, s.working = true → s.wrap.state = .park → s.wrap.angleCmp.armed = true →
      s.wrap.angleCmp.active = s.wrap.angle + 1 →
      ∃ t, exec .turntablePulse s = .next t ∧ t.wrap.state = .cut ∧ t.wrap.angle = s.wrap.angle + 1
        ∧ t.wrap.turntable = false ∧ t.wrap.stall = none ∧ t.wrap.filmClamp = false ∧ t.wrap.cutter = true
        ∧ t.wrap.cutSince = some s.clock ∧ t.wrap.angleCmp.armed = false)
    ∧ (∀ s : State, s.working = true →
    (∃ t, exec .turntableIndex s = .next t ∧ t.wrap.angleCapture = some s.wrap.angle)
    ∧ (s.wrap.state = .bottom → min 255 (s.wrap.rev + 1) < s.wrapClass.bottomCount →
      ∃ t, exec .turntableIndex s = .next t ∧ t.wrap.state = .bottom ∧ t.wrap.rev = min 255 (s.wrap.rev + 1)
        ∧ t.wrap.angle = 0)
    ∧ (s.wrap.state = .bottom → s.wrapClass.bottomCount ≤ min 255 (s.wrap.rev + 1) → s.wrap.mast ≠ s.cfg.mastMax →
      ∃ t, exec .turntableIndex s = .next t ∧ t.wrap.state = .rise ∧ t.wrap.carriageUp = true
        ∧ t.wrap.carriageDown = false ∧ t.wrap.capture = none ∧ t.wrap.mastCmp = ⟨true, s.cfg.mastMax, s.cfg.mastMax⟩)
    ∧ (s.wrap.state = .top → s.wrapClass.topCount ≤ min 255 (s.wrap.rev + 1) → s.wrapClass.cross = true →
      s.cfg.bottomTarget.toNat < s.wrap.mast.toNat →
      ∃ t, exec .turntableIndex s = .next t ∧ t.wrap.state = .descend ∧ t.wrap.carriageDown = true
        ∧ t.wrap.mastCmp = ⟨true, s.cfg.bottomTarget, s.cfg.bottomTarget⟩)
    ∧ (s.wrap.state = .top → s.wrapClass.topCount ≤ min 255 (s.wrap.rev + 1) → s.wrapClass.cross = false →
      s.cfg.parkAngle ≠ 0 →
      ∃ t, exec .turntableIndex s = .next t ∧ t.wrap.state = .park
        ∧ t.wrap.angleCmp = ⟨true, s.cfg.parkAngle, s.cfg.parkAngle⟩ ∧ t.wrap.lowRun = 0 ∧ t.wrap.highRun = 0)
    ∧ (s.wrap.state = .park → 1 ≤ s.wrap.parkIndexes →
      ∃ t, exec .turntableIndex s = .next t ∧ t.wrap.state = .cut ∧ t.wrap.turntable = false ∧ t.wrap.cutter = true)
    ∧ (s.wrap.state.turning = true → s.wrap.first = false → room s →
      s.cfg.countsPerRev / 50 < ((s.wrap.angle.toNat : Int) - (s.cfg.countsPerRev : Int)).natAbs →
      ∃ t, exec .turntableIndex s = .next t ∧ listedPresent t .turntableSlip (some 2)))

/-- MAST_STEP: one count up or down; a step out of the range leaves the counter, clears the homed flag and raises
MAST_LOST (R89). MAST_HOME_ASSERTED: in HOMING the assertion ends the homing; elsewhere it changes neither the counter
nor the flag (R93). -/
def Obligations.MastAndHome : Prop :=
  ((∀ s : State, s.working = true →
      (s.wrap.mast ≠ 65535#16 → ∃ t, exec (.mastStep true) s = .next t ∧ t.wrap.mast = s.wrap.mast + 1
        ∧ t.wrap.homed = s.wrap.homed ∧ t.mon.faults = s.mon.faults)
      ∧ (s.wrap.mast ≠ 0#16 → ∃ t, exec (.mastStep false) s = .next t ∧ t.wrap.mast = s.wrap.mast - 1
        ∧ t.wrap.homed = s.wrap.homed ∧ t.mon.faults = s.mon.faults))
    ∧ ∀ (s : State) (up : Bool), live s → s.wrap.mast = (if up then 65535#16 else 0#16) → room s →
      ∃ t, exec (.mastStep up) s = .next t ∧ t.wrap.mast = s.wrap.mast ∧ t.wrap.homed = false
        ∧ listedPresent t .mastLost (some 2) ∧ t.mon.lane = .fault ∧ t.wrap.state ≠ .homing)
    ∧ ((∀ s : State, s.working = true → s.wrap.state = .homing → s.inp.mastHome = false →
      ∃ t, exec (.mastHomeAsserted true) s = .next t ∧ t.wrap.mast = 0 ∧ t.wrap.homed = true ∧ t.wrap.state ≠ .homing)
    ∧ ∀ (s : State) (b : Bool), s.working = true → s.wrap.state ≠ .homing →
      exec (.mastHomeAsserted b) s = .next { s with inp := { s.inp with mastHome := b } }.finish)

/-- The mast compare's match in RISE ends the rise: TOP is entered, and the record's height is judged from the capture
standing, or TOP_NOT_FOUND is added (R98, R79 to R82). TOP_EYE_EDGE: in RISE a clear edge captures the mast and moves the
target to the capture plus overlap_counts, at most mast_max; a block edge discards the capture and returns the target; a
target that equals the mast counter ends the rise in the same event, with the
capture standing, if any, as the final one (R90, R99).
Elsewhere the edge has no effect. That the level the eye has already is no edge is the model's choice (log 6). -/
def Obligations.RiseAndTopEye : Prop :=
  (∀ (s : State) (p : PalletRecord), s.working = true → s.wrap.state = .rise → s.wrap.mastCmp.armed = true →
    s.wrap.mast ≠ 65535#16 → s.wrap.mastCmp.active = s.wrap.mast + 1 → 0 < s.wrapClass.topCount →
    s.pallet zTable = some p → s.zone zTable = .occupied → s.label.tableJob = none →
    ∃ t q, exec (.mastStep true) s = .next t ∧ t.wrap.state = .top ∧ t.wrap.rev = 0 ∧ t.wrap.carriageUp = false
      ∧ t.wrap.mastCmp.armed = false ∧ t.pallet zTable = some q ∧ samePallet p q
      ∧ (s.wrap.capture = none → hasReason q.reasons .topNotFound = true ∧ q.height = p.height)
      ∧ ∀ k m, s.wrap.capture = some k → p.manifest = some m →
          q.height = some (((k.toNat * s.cfg.mu / 1000 : Nat) : Int) - s.cfg.deckOffset)
            ∧ ∀ h, q.height = some h → p.reasons = 0 →
                (hasReason q.reasons .low = true ↔ h < 10 * (m.bandMin.toNat : Int))
                  ∧ (hasReason q.reasons .high = true ↔ 10 * (m.bandMax.toNat : Int) < h))
    ∧ (∀ s : State, s.working = true →
    (s.wrap.state = .rise → s.inp.topEye = true →
      min s.cfg.mastMax.toNat (s.wrap.mast.toNat + s.wrapClass.overlapMm * 1000 / s.cfg.mu) ≠ s.wrap.mast.toNat →
      ∃ t, exec (.topEyeEdge false) s = .next t ∧ t.wrap.state = .rise ∧ t.wrap.capture = some s.wrap.mast
        ∧ t.wrap.mastCmp.armed = true ∧ t.wrap.mastCmp.active.toNat =
            min s.cfg.mastMax.toNat (s.wrap.mast.toNat + s.wrapClass.overlapMm * 1000 / s.cfg.mu))
    ∧ (∀ p, s.wrap.state = .rise → s.inp.topEye = true →
      min s.cfg.mastMax.toNat (s.wrap.mast.toNat + s.wrapClass.overlapMm * 1000 / s.cfg.mu) = s.wrap.mast.toNat →
      0 < s.wrapClass.topCount → s.pallet zTable = some p → s.zone zTable = .occupied → s.label.tableJob = none →
      ∃ t q, exec (.topEyeEdge false) s = .next t ∧ t.wrap.state = .top ∧ t.wrap.rev = 0 ∧ t.wrap.carriageUp = false
        ∧ t.wrap.mastCmp.armed = false ∧ t.wrap.capture = some s.wrap.mast ∧ t.pallet zTable = some q ∧ samePallet p q
        ∧ hasReason q.reasons .topNotFound = hasReason p.reasons .topNotFound
        ∧ ∀ m, p.manifest = some m →
            q.height = some (((s.wrap.mast.toNat * s.cfg.mu / 1000 : Nat) : Int) - s.cfg.deckOffset)
              ∧ ∀ h, q.height = some h → p.reasons = 0 →
                  (hasReason q.reasons .low = true ↔ h < 10 * (m.bandMin.toNat : Int))
                    ∧ (hasReason q.reasons .high = true ↔ 10 * (m.bandMax.toNat : Int) < h))
    ∧ (s.wrap.state = .rise → s.inp.topEye = false → s.wrap.mast ≠ s.cfg.mastMax →
      ∃ t, exec (.topEyeEdge true) s = .next t ∧ t.wrap.state = .rise ∧ t.wrap.capture = none
        ∧ t.wrap.mastCmp = ⟨true, s.cfg.mastMax, s.cfg.mastMax⟩)
    ∧ (∀ p, s.wrap.state = .rise → s.inp.topEye = false → s.wrap.mast = s.cfg.mastMax → 0 < s.wrapClass.topCount →
      s.pallet zTable = some p → s.zone zTable = .occupied → s.label.tableJob = none →
      ∃ t q, exec (.topEyeEdge true) s = .next t ∧ t.wrap.state = .top ∧ t.wrap.rev = 0 ∧ t.wrap.carriageUp = false
        ∧ t.wrap.mastCmp.armed = false ∧ t.wrap.capture = none ∧ t.pallet zTable = some q ∧ samePallet p q
        ∧ hasReason q.reasons .topNotFound = true ∧ q.height = p.height)
    ∧ (s.wrap.state ≠ .rise → ∀ b, exec (.topEyeEdge b) s = .next { s with inp := { s.inp with topEye := b } }.finish))

/-- WRAP_START: R95's conditions, and the entry into START of R96, which with the mast at or below the bottom target goes on
to BOTTOM at once, and to RISE with a bottom count of 0 (R96, R97). CUT_TIME_END: CUTTER off, DONE, the record's wrap
outcome DONE, TABLE READY (R103). A record with reasons that comes into TABLE has its wrap SKIPPED and needs no label (R94,
R116). The clock's move to the end of the cut time (expiresAt) is the model's choice (log 4). -/
def Obligations.WrapStartsAndEnds : Prop :=
  (∀ (s : State) (p : PalletRecord) (m : Manifest), s.mon.lane = .running → s.zone zTable = .occupied →
    s.pallet zTable = some p → p.wrap = .none → p.reasons = 0 → p.manifest = some m → s.wrap.state = .idle →
    s.wrap.homed = true →
    (s.inp.runOn = true ∨ s.mon.overflow = false ∧ ∀ e ∈ s.mon.faults,
      e.kind ≠ .filmLow ∧ e.kind ≠ .forceLost ∧ e.kind ≠ .forceHigh ∧ e.kind ≠ .turntableSlip) →
    (s.cfg.bottomTarget.toNat < s.wrap.mast.toNat →
      ∃ t, exec .wrapStart s = .next t ∧ t.wrap.state = .start ∧ t.wrap.cls.val = m.wrapClass.toNat ∧ t.wrap.angle = 0
        ∧ t.wrap.rev = 0 ∧ t.wrap.lowRun = 0 ∧ t.wrap.highRun = 0 ∧ t.wrap.filmClamp = true ∧ t.wrap.turntable = true
        ∧ t.wrap.stall = some s.clock ∧ t.wrap.carriageDown = true ∧ t.wrap.carriageUp = false
        ∧ t.wrap.mastCmp = ⟨true, s.cfg.bottomTarget, s.cfg.bottomTarget⟩ ∧ startsKeep s t)
    ∧ (s.wrap.mast.toNat ≤ s.cfg.bottomTarget.toNat → ∀ c, s.cfg.classes[m.wrapClass.toNat]? = some c →
        (0 < c.bottomCount ∨ s.wrap.mast ≠ s.cfg.mastMax) →
        ∃ t, exec .wrapStart s = .next t ∧ t.wrap.cls.val = m.wrapClass.toNat ∧ t.wrap.angle = 0
          ∧ t.wrap.rev = 0 ∧ t.wrap.lowRun = 0 ∧ t.wrap.highRun = 0 ∧ t.wrap.filmClamp = true ∧ t.wrap.turntable = true
          ∧ t.wrap.stall = some s.clock ∧ t.wrap.carriageDown = false ∧ startsKeep s t
          ∧ (if 0 < c.bottomCount then t.wrap.state = .bottom ∧ t.wrap.carriageUp = false ∧ t.wrap.mastCmp.armed = false
              else t.wrap.state = .rise ∧ t.wrap.carriageUp = true
                ∧ t.wrap.mastCmp = ⟨true, s.cfg.mastMax, s.cfg.mastMax⟩))
    ∧ (s.wrap.mast.toNat ≤ s.cfg.bottomTarget.toNat → s.wrap.mast = s.cfg.mastMax →
        (∀ c, s.cfg.classes[m.wrapClass.toNat]? = some c → c.bottomCount = 0) →
        ∃ t q, exec .wrapStart s = .next t ∧ t.pallet zTable = some q ∧ samePallet p q
          ∧ hasReason q.reasons .topNotFound = true ∧ q.height = p.height))
    ∧ (∀ (s : State) (p : PalletRecord) (since : Ms), s.working = true → s.wrap.state = .cut → s.wrap.cutSince = some since →
    s.pallet zTable = some p → s.zone zTable = .occupied →
    ∃ t, exec .cutTimeEnd s = .next t ∧ expiresAt s t since (10 * s.cfg.cutTime) ∧ t.wrap.state = .done
      ∧ t.wrap.cutter = false ∧ t.wrap.cutSince = none ∧ (t.zone zTable = .ready ∨ t.zone zTable = .departing)
      ∧ ∃ q, t.pallet zTable = some q ∧ samePallet p q ∧ q.wrap = .done ∧ q.reasons = p.reasons)
    ∧ (∀ (s : State) (p : PalletRecord) (since : Ms), s.working = true → s.transfer 1 = .running since →
      s.eye zTable = false → s.pallet zBed = some p → p.reasons ≠ 0 → p.wrap = .none → p.label = .none →
      s.wrap.state = .idle → s.label.tableJob = none →
      ∃ t q, exec (.transferComplete 1) s = .next t ∧ t.pallet zTable = some q ∧ samePallet p q ∧ q.wrap = .skipped
        ∧ q.label = .notNeeded ∧ q.reasons = p.reasons ∧ (t.zone zTable = .ready ∨ t.zone zTable = .departing)
        ∧ t.wrap.state = .idle ∧ t.label.tableJob = none)

/-- The inputs that raise a deferred fault at their assertion and end its cause at their deassertion, ESTOP, and RUN_ON
(R108, R124, R176, R178). Each raise meets its list as R174 says: a listed entry is counted again, a list with room takes a
new entry with its Fault Report, a full list sets the overflow marker (R174, R175, R179); and the layout of a Fault Report
(R198). -/
def Obligations.FaultInputs : Prop :=
  (∀ s : State, s.working = true → s.inp.filmLow = false →
      ∃ t, exec (.filmLowInput true) s = .next t ∧ raisedIn s t .filmLow (some 2)
        ∧ (room s → listedPresent t .filmLow (some 2)) ∧ (s.mon.lane ≠ .stopping → t.mon.lane = s.mon.lane))
    ∧ (∀ s : State, s.working = true → s.inp.filmLow = true →
      ∃ t, exec (.filmLowInput false) s = .next t ∧ ∀ e ∈ t.mon.faults, e.kind = .filmLow → e.present = false)
    ∧ (∀ (s : State) (d : Side), s.working = true → s.labelLowLevel d = false →
      ∃ t, exec (.labelLowInput d true) s = .next t ∧ raisedIn s t .labelLow (some 3)
        ∧ (room s → listedPresent t .labelLow (some 3)) ∧ (s.mon.lane ≠ .stopping → t.mon.lane = s.mon.lane))
    ∧ (∀ (s : State) (d o : Side), s.working = true → d ≠ o → s.labelLowLevel d = true → s.labelLowLevel o = false →
      ∃ t, exec (.labelLowInput d false) s = .next t ∧ ∀ e ∈ t.mon.faults, e.kind = .labelLow → e.present = false)
    ∧ (∀ (s : State) (d o : Side), s.working = true → d ≠ o → s.labelLowLevel d = true → s.labelLowLevel o = true →
      ∃ t, exec (.labelLowInput d false) s = .next t ∧ t.mon.faults = s.mon.faults)
    ∧ (∀ s : State, s.working = true → s.inp.estop = false →
      ∃ t, exec (.estopInput true) s = .next t ∧ raisedIn s t .estop none ∧ (room s → listedPresent t .estop none)
        ∧ t.mon.lane = .fault ∧ t.inp.estop = true)
    ∧ (∀ s : State, s.working = true → s.inp.estop = true →
      ∃ t, exec (.estopInput false) s = .next t ∧ ∀ e ∈ t.mon.faults, e.kind = .estop → e.present = false)
    ∧ (∀ (s : State) (b : Bool), s.working = true →
      exec (.runOnInput b) s = .next { s with inp := { s.inp with runOn := b } }.finish)
    ∧ ∀ (e : FaultEntry) (position listed : Nat) (overflow : Bool) (l : LaneState), position ≤ 7 → listed ≤ 8 →
      (faultReportBody e position listed overflow l).length = 8
        ∧ fieldsAre (faultReportBody e position listed overflow l)
            [(0, 1, e.kind.code), (1, 1, match e.zone with | some z => z.val | none => 15),
              (2, 1, flag e.kind.immediate 128 + flag overflow 64 + l.code), (3, 1, 16 * position + listed),
              (4, 4, e.since.toNat)]

/-! ## Labelling (chapter 6) -/

/-- LABEL_COMPOSE, LABEL_ANSWER and PRINT_TIMEOUT: the label record goes out on both links; READY from both sides gives
CONSENTED; ERROR or T_print fails the job with its sides and discards the labels; other answers are discarded (R115 to
R118). The decision at TABLE READY: NOT_NEEDED for a record with reasons, else a job, printed at once or BLOCKED (R116,
R117); and the job given up for a reason gained before firing, here by a Void (R119, R47). That the clock moves to an expiry
(expiresAt) is the model's choice (log 4), and so are the side states PENDING of a BLOCKED job (log 32). -/
def Obligations.LabelPrinting : Prop :=
  (∀ (s : State) (j : Job) (p : PalletRecord) (m : Manifest), s.working = true → s.label.tableJob = some j →
      s.pallet zTable = some p → j.tag = p.tag → j.phase = .blocked → s.zone zTable = .ready → p.reasons = 0 →
      p.manifest = some m →
      (s.inp.runOn = true ∨ s.mon.overflow = false ∧ ∀ e ∈ s.mon.faults, e.kind ≠ .labelLow) →
      ∃ t, exec .labelCompose s = .next t ∧ t.label.txL = some (.print (labelRecord m p)) ∧ t.label.txR = t.label.txL
        ∧ (∃ k, t.label.tableJob = some k ∧ k.tag = j.tag ∧ k.phase = .printing ∧ k.left = .pending ∧ k.right = .pending
          ∧ k.tPrint = some s.clock) ∧ startsKeep s t)
    ∧ (∀ (s : State) (j : Job) (p : PalletRecord) (d : Side), s.working = true → s.label.tableJob = some j →
      s.pallet zTable = some p → j.tag = p.tag → p.reasons = 0 → s.zone zTable = .ready → j.phase = .printing →
      j.side d = .pending →
      (∃ t k, exec (.labelAnswer d .ready) s = .next t ∧ t.label.tableJob = some k ∧ k.tag = j.tag ∧ k.side d = .ready
        ∧ (((j.setSide d .ready).left = .ready ∧ (j.setSide d .ready).right = .ready) → k.phase = .consented ∧ k.tPrint = none)
        ∧ (¬((j.setSide d .ready).left = .ready ∧ (j.setSide d .ready).right = .ready) → k.phase = .printing))
      ∧ (∃ t q, exec (.labelAnswer d .error) s = .next t ∧ t.label.tableJob = none ∧ t.pallet zTable = some q
        ∧ samePallet p q ∧ q.label = .failed (d == .left) (d == .right) ∧ hasReason q.reasons .labelFailed = true
        ∧ t.label.txL = some .discard ∧ t.label.txR = some .discard)
      ∧ ∀ since, j.tPrint = some since → ∃ t q, exec .printTimeout s = .next t ∧ expiresAt s t since (100 * s.cfg.tPrint)
        ∧ t.label.tableJob = none ∧ t.pallet zTable = some q ∧ samePallet p q
        ∧ q.label = .failed (j.left == .pending) (j.right == .pending) ∧ hasReason q.reasons .labelFailed = true
        ∧ t.label.txL = some .discard ∧ t.label.txR = some .discard)
    ∧ (∀ (s : State) (d : Side) (a : UnitAnswer), s.working = true →
      (a = .undecodable ∨ ∀ j, s.label.tableJob = some j → j.phase ≠ .printing ∨ j.side d ≠ .pending) →
      exec (.labelAnswer d a) s = .next s.finish)
    ∧ (∀ (s : State) (p : PalletRecord) (since : Ms), s.working = true → s.wrap.state = .cut → s.wrap.cutSince = some since →
      s.pallet zTable = some p → p.label = .none → s.label.tableJob = none →
      (p.reasons ≠ 0 → ∃ t q, exec .cutTimeEnd s = .next t ∧ t.pallet zTable = some q ∧ samePallet p q
        ∧ q.label = .notNeeded ∧ t.label = s.label)
      ∧ ∀ m, p.reasons = 0 → p.manifest = some m →
        ((s.inp.runOn = true ∨ s.mon.overflow = false ∧ ∀ e ∈ s.mon.faults, e.kind ≠ .labelLow) →
          ∃ t, exec .cutTimeEnd s = .next t ∧ t.label = { s.label with
            txL := some (.print (labelRecord m p)), txR := some (.print (labelRecord m p))
            tableJob := some ⟨p.tag, .printing, .pending, .pending, none, some t.clock, none, false⟩ })
        ∧ (s.inp.runOn = false → (s.mon.overflow = true ∨ ∃ e ∈ s.mon.faults, e.kind = .labelLow) →
          ∃ t, exec .cutTimeEnd s = .next t ∧ t.label = { s.label with
            tableJob := some ⟨p.tag, .blocked, .pending, .pending, none, none, none, false⟩ }))
    ∧ ∀ (s : State) (src : Station) (dst : BitVec 4) (ident : BitVec 32) (j : Job) (p : PalletRecord), s.working = true →
      offered s src dst → s.label.tableJob = some j → s.pallet zTable = some p → j.tag = p.tag → p.ident = some ident →
      p.stage = .waiting → j.phase ≠ .fired →
      ∃ t q, exec (.manifestVoid src dst ident) s = .next t ∧ t.pallet zTable = some q ∧ samePallet p q
        ∧ q.label = .notNeeded ∧ t.label.tableJob = none ∧ t.label.cmp.armed = false
        ∧ (if j.phase = .blocked then t.label.txL = s.label.txL ∧ t.label.txR = s.label.txR
            else t.label.txL = some .discard ∧ t.label.txR = some .discard)

/-- LABEL_MARK_EDGE, CONVEYOR_PULSE and APPLY_PULSE_END: the mark arms the conveyor compare at the captured count plus
apply_offset modulo 65536, the match fires both applicators, with an apply_offset of 0 at the mark itself; a record with
reasons at the match has its job given up instead; the pulse ends after 100 ms (R86, R119, R120, R121). TRANSFER_COMPLETE
into LABEL fails a job that has not fired (R123). The clock's move to the end of the pulse (expiresAt) is the model's choice
(log 4). -/
def Obligations.LabelFiring : Prop :=
  ((∀ (s : State) (j : Job) (p : PalletRecord) (since : Ms), s.working = true → s.inp.labelMark = false →
      s.label.tableJob = some j → s.pallet zTable = some p → j.tag = p.tag → p.reasons = 0 → j.phase = .consented →
      s.transfer 2 = .running since → s.cfg.applyOffset ≠ 0 →
      ∃ t, exec (.labelMarkEdge true) s = .next t
        ∧ t.label.tableJob = some { j with phase := .armed, mark := some s.wrap.conveyor }
        ∧ t.label.cmp = ⟨true, s.wrap.conveyor + s.cfg.applyOffset, s.wrap.conveyor + s.cfg.applyOffset⟩)
    ∧ (∀ (s : State) (j : Job) (p : PalletRecord), s.working = true → s.label.tableJob = some j →
      s.pallet zTable = some p → j.tag = p.tag → p.reasons = 0 → j.phase = .armed → s.label.cmp.armed = true →
      s.label.cmp.active = s.wrap.conveyor + 1 →
      ∃ t k, exec .conveyorPulse s = .next t ∧ t.wrap.conveyor = s.wrap.conveyor + 1 ∧ t.label.cmp.armed = false
        ∧ t.label.applyL = true ∧ t.label.applyR = true ∧ t.label.pulse = some s.clock ∧ t.label.tableJob = some k
        ∧ k.tag = j.tag ∧ k.phase = .fired ∧ k.left = .fired ∧ k.right = .fired ∧ k.tApply = some s.clock)
    ∧ (∀ s : State, s.working = true → (s.label.cmp.armed = false ∨ s.label.cmp.active ≠ s.wrap.conveyor + 1) →
      exec .conveyorPulse s = .next { s with wrap := { s.wrap with conveyor := s.wrap.conveyor + 1 } }.finish)
    ∧ ∀ (s : State) (since : Ms), s.working = true → s.label.pulse = some since →
      ∃ t, exec .applyPulseEnd s = .next t ∧ expiresAt s t since 100 ∧ t.label.applyL = false ∧ t.label.applyR = false
        ∧ t.label.pulse = none)
    ∧ (∀ s : State, s.working = true →
      exec (.labelMarkEdge false) s = .next { s with inp := { s.inp with labelMark := false } }.finish)
    ∧ (∀ (s : State) (j : Job) (p : PalletRecord) (since : Ms), s.working = true → s.inp.labelMark = false →
      s.label.tableJob = some j → s.pallet zTable = some p → j.tag = p.tag → p.reasons = 0 → j.phase = .consented →
      s.transfer 2 = .running since → s.cfg.applyOffset = 0 →
      ∃ t k, exec (.labelMarkEdge true) s = .next t ∧ t.label.tableJob = some k ∧ k.tag = j.tag ∧ k.phase = .fired
        ∧ k.left = .fired ∧ k.right = .fired ∧ k.mark = some s.wrap.conveyor ∧ k.tApply = some s.clock
        ∧ t.label.applyL = true ∧ t.label.applyR = true ∧ t.label.pulse = some s.clock ∧ t.label.cmp.armed = false)
    ∧ (∀ (s : State) (j : Job) (p : PalletRecord), s.working = true → s.label.tableJob = some j →
      s.pallet zTable = some p → j.tag = p.tag → p.reasons ≠ 0 → j.phase = .armed → s.label.cmp.armed = true →
      s.label.cmp.active = s.wrap.conveyor + 1 →
      ∃ t q, exec .conveyorPulse s = .next t ∧ t.wrap.conveyor = s.wrap.conveyor + 1 ∧ t.label.cmp.armed = false
        ∧ t.label.applyL = s.label.applyL ∧ t.label.applyR = s.label.applyR ∧ t.label.tableJob = none
        ∧ t.label.txL = some .discard ∧ t.label.txR = some .discard ∧ t.pallet zTable = some q ∧ samePallet p q
        ∧ q.label = .notNeeded)
    ∧ ∀ (s : State) (j : Job) (p : PalletRecord) (since : Ms), s.working = true → s.transfer 2 = .running since →
      s.eye zLabel = false → s.label.tableJob = some j → s.pallet zTable = some p → j.tag = p.tag →
      (j.phase = .consented ∨ j.phase = .armed) →
      ∃ t q, exec (.transferComplete 2) s = .next t ∧ t.pallet zLabel = some q ∧ samePallet p q
        ∧ q.label = .failed true true ∧ hasReason q.reasons .labelFailed = true ∧ t.label.tableJob = none
        ∧ t.label.txL = some .discard ∧ t.label.txR = some .discard ∧ t.label.cmp.armed = false

/-- APPLIED_CONFIRMATION and APPLY_TIMEOUT for the FIRED job of a record that has left TABLE, and of one still in TABLE: with
both sides decided the record's label outcome is APPLIED, or FAILED with the missed sides, and the job is freed (R122). The
clock's move to the expiry of T_apply (expiresAt) is the model's choice (log 4). -/
def Obligations.LabelConfirmations : Prop :=
  (∀ (s : State) (j : Job) (z : Fin 9) (p : PalletRecord) (job : State → Option Job), s.working = true → job s = some j →
    j.phase = .fired → s.zoneOfTag j.tag = some z → s.pallet z = some p → p.label = .none →
    ((job = fun s => s.label.labelJob) ∧ 3 ≤ z.val
      ∨ (job = fun s => s.label.tableJob) ∧ z = zTable ∧ s.label.labelJob = none) →
    (∀ d, s.appliedLevel d = false → j.side d = .fired →
      (∀ o, o ≠ d → j.side o = .fired →
        ∃ t, exec (.appliedConfirmation d true) s = .next t ∧ job t = some (j.setSide d .seen))
      ∧ ((∀ o, o ≠ d → j.side o = .seen) →
        ∃ t q, exec (.appliedConfirmation d true) s = .next t ∧ job t = none ∧ t.pallet z = some q
          ∧ samePallet p q ∧ q.label = .applied ∧ q.reasons = p.reasons))
    ∧ ∀ since, j.tApply = some since → (j.left = .fired ∨ j.right = .fired) → (∀ d, j.side d = .fired ∨ j.side d = .seen) →
      ∃ t q, exec .applyTimeout s = .next t ∧ expiresAt s t since (100 * s.cfg.tApply) ∧ job t = none
        ∧ t.pallet z = some q ∧ samePallet p q ∧ q.label = .failed (j.left == .fired) (j.right == .fired)
        ∧ hasReason q.reasons .labelFailed = true)
    ∧ ∀ (s : State) (d : Side), s.working = true →
      exec (.appliedConfirmation d false) s = .next (s.setApplied d false).finish

/-! ## Release sequencing (chapter 8) -/

/-- CLAIM, RELEASED, ABANDON, SKIP and LOAD_CLOSE on the entry of their load; a failed content check, of a load of 0, a
sequence of 0 or a new next outside 1..256, is a line error; a load without an entry changes nothing in the view (R146 to
R151, R153). That a Claim for the sequence whose claim the entry holds already touches the entry and starts T_claim anew is
the model's reading (log 11). -/
def Obligations.ViewNotices : Prop :=
  (∀ (s : State) (src : Station) (dst : BitVec 4) (load : BitVec 16) (k : BitVec 8) (f : Bool) (x : BitVec 32) (e : LoadEntry),
      s.working = true → src ≠ s.own → load ≠ 0 → k ≠ 0 → s.loadEntry load = some e →
      (e.next ≤ k.toNat → ∃ t, exec (.claim src dst load k f x) s = .next t ∧ t.line.lastSender = src
        ∧ t.view.entries.head? = some { e with next := k.toNat, claim := some ⟨src, k, s.clock⟩ }
        ∧ t.view.skips = if e.next < k.toNat then min 65535 (s.view.skips + 1) else s.view.skips)
      ∧ (k.toNat < e.next → ∃ t, exec (.claim src dst load k f x) s = .next t ∧ t.view = s.view)
      ∧ (e.next ≤ k.toNat → ∃ t, exec (.released src dst load k) s = .next t
        ∧ t.view.entries.head? = some { e with
            next := k.toNat + 1, claim := if (∃ c, e.claim = some c ∧ c.seq = k) then none else e.claim }
        ∧ t.view.skips = if e.next < k.toNat then min 65535 (s.view.skips + 1) else s.view.skips)
      ∧ (k.toNat < e.next → e.next ≤ 256 → (∃ c, e.claim = some c ∧ c.seq = k) → ∃ t, exec (.released src dst load k) s = .next t
        ∧ t.view.entries.head? = some { e with claim := none } ∧ t.view.skips = s.view.skips)
      ∧ (k.toNat < e.next → (∀ c, e.claim = some c → c.seq ≠ k) → ∃ t, exec (.released src dst load k) s = .next t
        ∧ t.view = s.view)
      ∧ (∀ since, e.claim = some ⟨src, k, since⟩ → ∃ t, exec (.abandon src dst load k) s = .next t
        ∧ t.view.entries.head? = some { e with claim := none } ∧ t.view.skips = s.view.skips)
      ∧ ((∀ since, e.claim ≠ some ⟨src, k, since⟩) → ∃ t, exec (.abandon src dst load k) s = .next t ∧ t.view = s.view))
    ∧ (∀ (s : State) (src : Station) (dst : BitVec 4) (load n : BitVec 16) (e : LoadEntry), s.working = true →
      offered s src dst → load ≠ 0 → s.loadEntry load = some e →
      (e.next < n.toNat → n.toNat ≤ 256 → ∃ t, exec (.skip src dst load n) s = .next t
        ∧ t.view.entries.head? = some { e with next := n.toNat } ∧ t.view.skips = s.view.skips)
      ∧ (1 ≤ n.toNat → n.toNat ≤ e.next → n.toNat ≤ 256 → ∃ t, exec (.skip src dst load n) s = .next t ∧ t.view = s.view)
      ∧ (e.count = 0 → ∃ t, exec (.loadClose src dst load) s = .next t ∧ t.loadEntry load = none)
      ∧ (0 < e.count → ∃ t, exec (.loadClose src dst load) s = .next t
        ∧ t.loadEntry load = some { e with closing := true }))
    ∧ ∀ (s : State) (c : Instr) (src : Station) (dst : BitVec 4) (load n : BitVec 16) (k : BitVec 8) (f : Bool) (x : BitVec 32),
      s.working = true → offered s src dst →
      c ∈ [Instr.claim src dst load k f x, .released src dst load k, .abandon src dst load k, .skip src dst load n,
        .loadClose src dst load] →
      (load = 0 ∨ (k = 0 ∧ c ∈ [Instr.claim src dst load k f x, .released src dst load k, .abandon src dst load k])
        ∨ ((n = 0 ∨ 256 < n.toNat) ∧ c = .skip src dst load n) →
        ∃ t, exec c s = .next t ∧ t.line.lineErrors = min 65535 (s.line.lineErrors + 1) ∧ t.view = s.view)
      ∧ (s.loadEntry load = none → ∃ t, exec c s = .next t ∧ t.view = s.view ∧ t.line.lastSender = src)

/-- A rise of next above the FRONT record's sequence, by a Released, a Claim, a Skip or a Manifest, overtakes it: DUPLICATE,
DUPLICATE_AT_FRONT, the lane in FAULT; a queued Claim removed, or marked where it is in flight, a won claim taken back with
an Abandon, but not by a Released of its own sequence, which has cleared it (R138, R157, R161). A Claim from another station
for the FRONT record's own load and sequence: a queued Claim is removed or marked, a won claim is yielded as a duplicate, an
exit gives DOUBLE_CLAIM, and so does a Released from another station for the sequence of an exiting record; the exiting
record keeps its reservation. Neither the yield nor DOUBLE_CLAIM queues an Abandon (R157, R162). That the Released acts on
the exiting record also where its load has no entry, or one that it changes nothing of, is the model's reading (log 12). -/
def Obligations.FrontLosesClaim : Prop :=
  (∀ (s : State) (src : Station) (dst : BitVec 4) (c : Instr) (p : PalletRecord) (m : Manifest) (e : LoadEntry),
    live s → src ≠ s.own → m.load ≠ 0 → s.pallet zFront = some p → p.manifest = some m →
    (p.stage = .waiting ∨ p.stage = .claimQueued ∨ p.stage = .claimWon) → s.loadEntry m.load = some e →
    e.next ≤ m.seq.toNat → room s →
    ((∃ k, k ≠ 0 ∧ c = .released src dst m.load k ∧ m.seq.toNat ≤ k.toNat)
      ∨ (∃ k f x, c = .claim src dst m.load k f x ∧ m.seq.toNat < k.toNat)
      ∨ (∃ n, c = .skip src dst m.load n ∧ offered s src dst ∧ m.seq.toNat < n.toNat ∧ n.toNat ≤ 256)
      ∨ ∃ a, c = .manifest src dst a ∧ offered s src dst ∧ manifestOk a = true ∧ a.load = m.load
          ∧ m.seq.toNat < a.issueNext.toNat ∧ ∀ y ∈ s.tracker, y.ident ≠ a.ident) →
    ∃ t q, exec c s = .next t ∧ t.pallet zFront = some q ∧ samePallet p q
      ∧ q.stage = .waiting ∧ hasReason q.reasons .duplicate = true ∧ listedPresent t .duplicateAtFront (some 8)
      ∧ t.mon.lane = .fault
      ∧ (p.stage = .claimQueued → s.claimInFlight = false → (∀ n ∈ t.tx.sequence, n.isClaim = false) ∧ t.rel.followUp = false)
      ∧ (p.stage = .claimQueued → s.claimInFlight = true → t.line.marked = true ∧ t.tx.sequence = s.tx.sequence
          ∧ t.rel.followUp = s.rel.followUp)
      ∧ (p.stage = .claimWon → s.rel.followUp = true → t.rel.followUp = false
          ∧ t.tx.sequence = s.tx.sequence
              ++ (if c = .released src dst m.load m.seq then [] else [.abandon m.load m.seq])))
    ∧ (∀ (s : State) (src : Station) (dst : BitVec 4) (f : Bool) (x : BitVec 32) (p : PalletRecord) (m : Manifest) (e : LoadEntry),
    live s → src ≠ s.own → m.load ≠ 0 → m.seq ≠ 0 → s.pallet zFront = some p → p.manifest = some m →
    s.loadEntry m.load = some e → e.next ≤ m.seq.toNat → room s →
    (p.stage = .claimQueued → s.claimInFlight = false →
      ∃ t q, exec (.claim src dst m.load m.seq f x) s = .next t ∧ t.pallet zFront = some q ∧ q.stage = .waiting
        ∧ q.reasons = p.reasons ∧ (∀ n ∈ t.tx.sequence, n.isClaim = false) ∧ t.rel.followUp = false)
    ∧ (p.stage = .claimQueued → s.claimInFlight = true → s.rel.followUp = true →
      ∃ t q, exec (.claim src dst m.load m.seq f x) s = .next t ∧ t.pallet zFront = some q ∧ q.stage = .waiting
        ∧ q.reasons = p.reasons ∧ t.line.marked = true ∧ t.tx.sequence = s.tx.sequence ∧ t.rel.followUp = true)
    ∧ (p.stage = .claimWon →
      ∃ t q, exec (.claim src dst m.load m.seq f x) s = .next t ∧ t.pallet zFront = some q ∧ q.stage = .waiting
        ∧ hasReason q.reasons .duplicate = true ∧ listedPresent t .duplicateAtFront (some 8) ∧ t.mon.lane = .fault
        ∧ t.rel.followUp = false ∧ t.tx.sequence = s.tx.sequence)
    ∧ (p.stage = .exiting →
      ∃ t q, exec (.claim src dst m.load m.seq f x) s = .next t ∧ t.pallet zFront = some q ∧ q.stage = .exiting
        ∧ q.reasons = p.reasons ∧ listedPresent t .doubleClaim (some 8) ∧ t.mon.lane = .fault
        ∧ t.rel.followUp = s.rel.followUp ∧ t.tx.sequence = s.tx.sequence))
    ∧ ∀ (s : State) (src : Station) (dst : BitVec 4) (p : PalletRecord) (m : Manifest), live s → src ≠ s.own → m.load ≠ 0 →
      m.seq ≠ 0 → s.pallet zFront = some p → p.manifest = some m → p.stage = .exiting → room s →
      ∃ t q, exec (.released src dst m.load m.seq) s = .next t ∧ t.pallet zFront = some q ∧ samePallet p q
        ∧ q.stage = .exiting ∧ q.reasons = p.reasons ∧ listedPresent t .doubleClaim (some 8) ∧ t.mon.lane = .fault
        ∧ t.rel.followUp = s.rel.followUp ∧ t.tx.sequence = s.tx.sequence

/-- CLAIM_QUEUE, CLAIM_TIMEOUT and STALL_TIMEOUT (R152, R155, R163). A Stalled notice that finds no place is not made; one
formed in the very instant in which an event frees the one place of a full queue, which a reject transfer waits for, takes
that place first or finds it taken (R137). That a notice formed before that event is among its joins, and that the row of an expiry taken with them
does nothing more, is the model's choice (log 33). The clock's move to the expiry of T_claim and of the stall timer
(expiresAt) is the model's choice (log 4). -/
def Obligations.ClaimsQueueExpireAndStall : Prop :=
  (∀ (s : State) (p : PalletRecord) (m : Manifest) (e : LoadEntry), s.mon.lane = .running → s.zone zFront = .ready →
      s.pallet zFront = some p → p.stage = .waiting → p.reasons = 0 → p.manifest = some m →
      s.loadEntry m.load = some e → (e.next = m.seq.toNat ∨ s.rel.force = true) →
      (∀ c, e.claim = some c → c.seq = m.seq → c.station = s.own) → s.track.exitSlot = none → s.rel.followUp = false →
      (s.inp.runOn = true ∨ s.mon.overflow = false ∧ ∀ x ∈ s.mon.faults, x.kind ≠ .addressClash) → 2 ≤ s.seqFree →
      ∃ t, exec (.claimQueue true) s = .next t ∧ t.frontStage = some .claimQueued
        ∧ t.tx.sequence = s.tx.sequence ++ [.claim m.load m.seq s.rel.force (p.ident.getD 0)]
        ∧ t.rel = ⟨true, false, none⟩ ∧ startsKeep { s with inp := { s.inp with mergeClear := true } } t)
    ∧ (∀ (s : State) (load : BitVec 16) (e : LoadEntry) (c : ClaimHeld), s.working = true → s.loadEntry load = some e →
      e.claim = some c →
      ∃ t, exec (.claimTimeout load) s = .next t ∧ expiresAt s t c.since (1000 * s.cfg.tClaim)
        ∧ t.view.entries.head? = some { e with claim := none } ∧ t.view.skips = s.view.skips)
    ∧ (∀ (s : State) (p : PalletRecord) (m : Manifest) (e : LoadEntry) (since : Ms), s.working = true →
      s.rel.stall = some since → s.zone zFront = .ready → s.pallet zFront = some p → p.stage = .waiting →
      p.reasons = 0 → p.manifest = some m → s.loadEntry m.load = some e → e.next < m.seq.toNat → s.rel.force = false →
      s.tx.ahead ≠ some s.clock →
      ∃ t, exec .stallTimeout s = .next t ∧ expiresAt s t since (1000 * s.cfg.tWait) ∧ t.rel.stall = some t.clock
        ∧ (0 < s.seqFree → .stalled m.load m.seq e.next ∈ t.tx.sequence)
        ∧ (s.seqFree = 0 → t.tx.sequence = s.tx.sequence ∧ t.tx.unplaced = some ⟨m.load, m.seq, e.next, t.clock⟩))
    ∧ (∀ s : State, s.working = true → s.tx.ahead = some s.clock →
      exec .stallTimeout s = .next { s with tx := { s.tx with ahead := none } }.finish)
    ∧ ∀ (s : State) (n : Notice) (rest : List Notice) (d : PalletRecord) (m : Manifest) (load : BitVec 16) (k : BitVec 8)
        (next : Nat), s.mon.lane = .running → s.line.state = .send → s.line.inFlight = some .sequence →
      s.tx.sequence = n :: rest → (∃ l j x, n = .stalled l j x) → s.seqUsed = 8 → s.zone zDivert = .ready →
      s.pallet zDivert = some d → d.reasons ≠ 0 → d.manifest = some m → s.tx.rejectReserved = false →
      s.inp.rejectFull = false → s.inp.rejectEye = false → s.tx.unplaced = some ⟨load, k, next, s.clock⟩ →
      ∃ t, exec .ownNoticeComplete s = .next t
        ∧ ((t.tx.sequence = rest ++ [.stalled load k next] ∧ t.tx.rejectReserved = false ∧ t.seq.reject = s.seq.reject
              ∧ t.zone zDivert = .ready)
          ∨ (t.tx.sequence = rest ∧ t.tx.rejectReserved = true ∧ t.seq.reject = .running s.clock
              ∧ t.zone zDivert = .departing))

/-- The station's notice completes whole: the line's counts, the freed head, the round-robin pointer in the modes that use
it, and what its owner does (R42, R129, R134, R136, R140, R156, R159). A Claim marked for removal that completes still
stands in the view: the FRONT record that waits for it again wins it, else it is abandoned, or the reservation is released
where the view no longer holds it (R156). That an own Claim which the entry holds already touches the entry and starts
T_claim anew is the model's reading (log 11). A Stalled notice of the same instant may take a freed place that a start waits
for (queueIs, R137; log 33). -/
def Obligations.OwnNoticeCompletes : Prop :=
  (∀ (s : State) (src : Source), s.working = true → s.line.state = .send → s.line.inFlight = some src →
    (∃ t, exec .ownNoticeComplete s = .next t ∧ t.line.lastSender = s.own ∧ t.line.retry = 0 ∧ t.line.congested = false
      ∧ t.line.state = .gap ∧ t.line.trainPos = s.line.trainPos + 1 ∧ t.line.inFlight = none
      ∧ (∀ next, (s.cfg.arbMode, src, next) ∈ servedRows → t.tx.pointer = next)
      ∧ (s.cfg.arbMode = 1 → src = .sequence → t.tx.pointer = s.tx.pointer))
    ∧ (∀ load k f x rest p m, src = .sequence → s.tx.sequence = .claim load k f x :: rest → s.line.marked = false →
      s.pallet zFront = some p → p.stage = .claimQueued → p.manifest = some m → m.load = load → m.seq = k →
      ∃ t, exec .ownNoticeComplete s = .next t ∧ queueIs s t rest
        ∧ (t.frontStage = some .claimWon ∨ t.frontStage = some .exiting)
        ∧ ∀ e, s.loadEntry load = some e → e.next ≤ k.toNat →
            t.view.entries.head? = some { e with next := k.toNat, claim := some ⟨s.own, k, s.clock⟩ })
    ∧ (∀ load k f x rest, src = .sequence → s.tx.sequence = .claim load k f x :: rest → s.line.marked = true →
      s.rel.followUp = true → (∀ p, s.pallet zFront = some p → p.stage = .waiting) →
      (s.mon.lane = .fault → ∃ t, exec .ownNoticeComplete s = .next t ∧ t.tx.sequence = rest ++ [.abandon load k]
        ∧ t.rel.followUp = false)
      ∧ (s.mon.lane ≠ .fault → ∀ e, s.loadEntry load = some e → e.next ≤ k.toNat →
        (∀ p m, s.pallet zFront = some p → p.manifest = some m → p.reasons = 0 → m.load = load → m.seq = k →
          ∃ t, exec .ownNoticeComplete s = .next t ∧ queueIs s t rest ∧ t.rel.followUp = true
            ∧ (t.frontStage = some .claimWon ∨ t.frontStage = some .exiting))
        ∧ ((∀ p m, s.pallet zFront = some p → p.manifest = some m → p.reasons ≠ 0 ∨ m.load ≠ load ∨ m.seq ≠ k) →
          ∃ t, exec .ownNoticeComplete s = .next t ∧ (rest ++ [.abandon load k]) <+: t.tx.sequence))
      ∧ (s.mon.lane ≠ .fault → s.mon.lane ≠ .running ∨ s.pallet zFront = none →
        (∀ e, s.loadEntry load = some e → k.toNat < e.next ∧ ∀ c, e.claim = some c → c.station = s.own → c.seq ≠ k) →
        ∃ t, exec .ownNoticeComplete s = .next t ∧ queueIs s t rest ∧ t.rel.followUp = false))
    ∧ (∀ load k rest p m, src = .sequence → s.tx.sequence = .released load k :: rest → s.track.exitSlot = some p →
      p.manifest = some m → m.load = load → m.seq = k →
      ∃ t, exec .ownNoticeComplete s = .next t ∧ t.track.exitSlot = none
        ∧ ringTakes s t (dispatchRecord p .released s.clock) ∧ countsOut s t p)
    ∧ (∀ x tag rest e, src = .request → s.tx.request = .manifestRequest x tag :: rest → e ∈ s.tracker → e.tag = tag →
      ∃ t, exec .ownNoticeComplete s = .next t ∧ ∃ y ∈ t.tracker, y.tag = tag ∧ y.ident = e.ident ∧ y.tManifest = some s.clock)
    ∧ (∀ n rest, src = .report → s.tx.report = n :: rest → ((∃ d b, n = .statusReply d b) ∨ ∃ b, n = .faultReport b) →
      ∃ t, exec .ownNoticeComplete s = .next t ∧ t.tx.report = rest)
    ∧ (src = .ring → ∃ t, exec .ownNoticeComplete s = .next t ∧ t.ring.records = s.ring.records.drop 1))
    ∧ ∀ (s : State) (load : BitVec 16) (k : BitVec 8) (f : Bool) (x : BitVec 32), s.working = true →
      s.line.state = .send → s.line.inFlight = some .sequence →
      (s.tx.sequence.head? = some (.claim load k f x) → exec (.claim s.own 15#4 load k f x) s = exec .ownNoticeComplete s)
      ∧ (s.tx.sequence.head? = some (.released load k) →
          exec (.released s.own 15#4 load k) s = exec .ownNoticeComplete s)
      ∧ (s.tx.sequence.head? = some (.abandon load k) →
          exec (.abandon s.own 15#4 load k) s = exec .ownNoticeComplete s)

/-! ## The dock line (chapter 7) -/

/-- The waits: a wait that ends starts the chosen notice, a gap the next of the train up to four; other stations' activity
sets the wait of DEFER or BACKOFF aside and its end begins it anew, with the d of its line state; in GAP it ends the train
(R131, R133, R135; that LINE_ACTIVITY_DEFER gives the beginning and the end apart: log 15). The notice chosen is the head of
the first source that is ready, in R140's order for the arbitration mode and the pointer. COLLISION: the notice is aborted
and counted, its source noted, and the station backs off 16 + own slots; one marked for removal leaves its queue: a Claim
with its reservation, after which the FRONT record may in RUNNING be claimed anew (R155), a Manifest Request alone, its
place then free for a request that waits (R132 to R134, R138, R157, R45). That DEFER counts the access wait's d also after a
backoff that ended in IDLE is the model's choice (log 34). A Stalled notice of the same instant may take a freed place that
a start waits for (queueIs, R137; log 33). -/
def Obligations.LineWaitsAndCollisions : Prop :=
  (∀ s : State,
    (s.cfg.arbMode = 0 → s.choose = [Source.sequence, .request, .report, .ring].find? s.ready)
    ∧ (∀ order, (s.cfg.arbMode, s.tx.pointer, order) ∈ searchRows → s.choose = order.find? s.ready)
    ∧ (∀ src, s.ready src = true ↔ s.line.inFlight ≠ some src ∧ (s.headNotice src ≠ none ∨ src = .ring ∧ s.ring.records ≠ [])))
    ∧ (∀ s : State, s.working = true →
    (∀ src, s.line.state = .defer → s.line.activity = false → s.choose = some src →
      ∃ t, exec .accessWaitEnd s = .next t ∧ t.line.state = .send ∧ t.line.inFlight = some src
        ∧ t.line.driving = s.headContent src ∧ t.line.trainPos = 0)
    ∧ (∀ src, s.line.state = .backoff → s.line.activity = false → s.line.restartSrc = some src → s.ready src = true →
      ∃ t, exec .backoffWaitEnd s = .next t ∧ t.line.state = .send ∧ t.line.inFlight = some src
        ∧ t.line.restartSrc = none ∧ t.line.trainPos = 0)
    ∧ (∀ src, s.line.state = .gap → s.line.trainPos < 4 → s.choose = some src →
      ∃ t, exec .gapEnd s = .next t ∧ t.line.state = .send ∧ t.line.inFlight = some src
        ∧ t.line.trainPos = s.line.trainPos)
    ∧ (s.line.state = .gap → 4 ≤ s.line.trainPos ∨ s.choose = none →
      ∃ t, exec .gapEnd s = .next t ∧ (t.line.state = .defer ∨ t.line.state = .idle) ∧ t.line.trainPos = 0)
    ∧ (s.line.state = .defer →
      (∃ t, exec (.lineActivityDefer true) s = .next t ∧ t.line.activity = true ∧ t.line.state = .defer)
      ∧ ∃ t, exec (.lineActivityDefer false) s = .next t ∧ t.line.activity = false ∧ t.line.state = .defer
        ∧ t.line.waitSlots = 1 + (s.own.val + 29 - s.line.lastSender.val) % 15)
    ∧ (s.line.state = .backoff →
      (∃ t, exec (.lineActivityDefer true) s = .next t ∧ t.line.activity = true ∧ t.line.state = .backoff)
      ∧ ∃ t, exec (.lineActivityDefer false) s = .next t ∧ t.line.activity = false ∧ t.line.state = .backoff
        ∧ t.line.waitSlots = 16 + s.own.val ∧ t.line.restartSrc = s.line.restartSrc)
    ∧ (s.line.state = .gap → ∃ t, exec (.lineActivityDefer true) s = .next t ∧ t.line.activity = true ∧ t.line.trainPos = 0
        ∧ (t.line.state = .defer ∨ (t.line.state = .idle ∧ ∀ src, t.ready src = false))
        ∧ ((∃ src, s.ready src = true) → t.line.state = .defer
            ∧ t.line.waitSlots = 1 + (s.own.val + 29 - s.line.lastSender.val) % 15)
        ∧ t.line.collisions = s.line.collisions ∧ t.line.retry = s.line.retry))
    ∧ (∀ (s : State) (src : Source), s.working = true → s.line.state = .send → s.line.inFlight = some src →
    ∃ t, exec .collision s = .next t ∧ t.line.state = .backoff ∧ t.line.inFlight = none ∧ t.line.driving = none
      ∧ t.line.retry = min 255 (s.line.retry + 1) ∧ t.line.collisions = min 65535 (s.line.collisions + 1)
      ∧ (t.line.congested = true ↔ s.line.congested = true ∨ 16 ≤ min 255 (s.line.retry + 1))
      ∧ t.line.restartSrc = some src ∧ t.line.trainPos = 0 ∧ t.line.waitSlots = 16 + s.own.val
      ∧ (s.line.marked = false → ∀ n, s.headNotice src = some n → t.headNotice src = some n)
      ∧ (s.line.marked = true → src = .sequence → ∀ n rest, s.tx.sequence = n :: rest → n.isClaim = true →
          (s.mon.lane ≠ .running ∨ s.zone zFront ≠ .ready ∨ s.inp.mergeClear = false →
            queueIs s t rest ∧ t.rel.followUp = false)
          ∧ ((queueIs s t rest ∧ t.rel.followUp = false)
            ∨ ∃ p m f, s.pallet zFront = some p ∧ p.manifest = some m ∧ p.reasons = 0 ∧ s.mon.lane = .running
              ∧ (queueIs s t (rest ++ [.claim m.load m.seq f (p.ident.getD 0)])
                ∨ ∃ n, stalledWaits s n ∧ t.tx.sequence = rest ++ [n, .claim m.load m.seq f (p.ident.getD 0)])
              ∧ t.rel.followUp = true ∧ t.frontStage = some .claimQueued))
      ∧ (s.line.marked = true → src = .request → ∀ x tag rest, s.tx.request = .manifestRequest x tag :: rest →
          rest <+: t.tx.request ∧ ((∀ y ∈ s.tracker, y.joined = true) → t.tx.request = rest)))

/-- Received notices that no block takes: a discarded or truncated one is a line error and leaves the last sender; an
ignored one changes nothing beyond its reception (received), but for the starts that end every event; one with the own
number raises ADDRESS_CLASH (R128 to R130). An unassigned command code is a line error and writes no result (R169). That
PEER_NOTICE_IGNORED given with a kind and destination that a block of the lane would take is ignored all the same is the
model's choice (log 29). -/
def Obligations.NoticesNotTaken : Prop :=
  ((∀ (s : State) (c : Instr), s.working = true →
      (c = .noticeTruncated ∨ ∃ levels, c = .noticeDiscarded levels ∧ receiveLevels levels = none) →
      ∃ t, exec c s = .next t ∧ t = { s with line := s.heardDiscarded.line }.finish
        ∧ t.line.lineErrors = min 65535 (s.line.lineErrors + 1) ∧ t.line.lastSender = s.line.lastSender
        ∧ t.view = s.view ∧ t.cache = s.cache ∧ t.mon.faults = s.mon.faults)
    ∧ (∀ (s : State) (src : Station) (dst : BitVec 4) (kind : Fin 15), s.working = true → src ≠ s.own →
      ∃ t, exec (.peerNoticeIgnored src dst kind) s = .next t ∧ t = (received s src s.line.lineErrors).finish
        ∧ t.line.lastSender = src
        ∧ t.line.lineErrors = s.line.lineErrors ∧ t.view = s.view ∧ t.cache = s.cache ∧ t.mon.faults = s.mon.faults)
    ∧ ∀ (s : State) (dst : BitVec 4) (kind : Fin 15), s.working = true → s.line.state ≠ .send → room s →
      ∃ t, exec (.addressClash dst kind) s = .next t ∧ t.line.lastSender = s.own
        ∧ t.line.lineErrors = s.line.lineErrors ∧ listedPresent t .addressClash none ∧ t.view = s.view ∧ t.cache = s.cache)
    ∧ (∀ (s : State) (src : Station) (dst : BitVec 4) (code : Byte), s.working = true → offered s src dst →
    (code.toNat = 0 ∨ 6 < code.toNat) →
    ∃ t, exec (.laneCommandUnassigned src dst code) s = .next t
      ∧ t = (received s src (min 65535 (s.line.lineErrors + 1))).finish
      ∧ t.line.lineErrors = min 65535 (s.line.lineErrors + 1) ∧ t.mon.last = s.mon.last ∧ t.line.lastSender = src
      ∧ t.mon.faults = s.mon.faults)

/-! ## Lane commands (chapter 9) -/

/-- START is accepted exactly in STOPPED without an immediate entry, ESTOP or a DUPLICATE record at FRONT; STOP exactly in
RUNNING; each writes the last command result (R169 to R171). At an entry into RUNNING an abandoned transfer whose target eye
is blocked completes, with the OVERLENGTH check on its source (listed where the fault list has room for it and, at FRONT,
for a DUPLICATE_AT_FRONT of the same instant, R174), and one whose target eye is clear is dropped and started anew as soon
as the motion's own conditions hold (goesOn): a record with reasons in DIVERT takes the reject transfer instead. An
abandoned reject transfer is examined likewise against REJECT_EYE, and the record keeps its reservation (R15 to R18). -/
def Obligations.StartAndStop : Prop :=
  (∀ (s : State) (src : Station) (dst : BitVec 4), s.working = true → offered s src dst →
    (s.mon.lane = .stopped → (∀ e ∈ s.mon.faults, e.kind.immediate = false) → s.inp.estop = false →
      s.frontDuplicate = false → (∀ z, (s.transfer z).isAbandoned = false) → s.seq.reject.isAbandoned = false →
      ∃ t, exec (.start src dst) s = .next t ∧ t.mon.lane = .running
        ∧ t.mon.last = some ⟨.start, .accepted, some src, s.clock⟩ ∧ t.mon.faults = s.mon.faults
        ∧ (s.wrap.state = .idle → s.wrap.homed = false → s.inp.mastHome = false →
            t.wrap.state = .homing ∧ t.wrap.carriageDown = true ∧ t.wrap.mast = 65535)
        ∧ (s.seq.exit.isAbandoned = true → t.seq.exit = .running s.clock))
    ∧ ((s.mon.lane ≠ .stopped ∨ (∃ e ∈ s.mon.faults, e.kind.immediate = true) ∨ s.inp.estop = true
        ∨ s.frontDuplicate = true) →
      ∃ t, exec (.start src dst) s = .next t ∧ t.mon.last = some ⟨.start, .refusedState, some src, s.clock⟩
        ∧ t.mon.faults = s.mon.faults ∧ (s.mon.lane ≠ .stopping → t.mon.lane = s.mon.lane))
    ∧ (s.mon.lane = .running →
      ∃ t, exec (.stop src dst) s = .next t ∧ t.mon.last = some ⟨.stop, .accepted, some src, s.clock⟩
        ∧ ((t.mon.lane = .stopping ∧ 0 < t.mon.motions) ∨ (t.mon.lane = .stopped ∧ t.mon.motions = 0))
        ∧ t.rel.force = false ∧ t.frontStage ≠ some .claimQueued ∧ t.frontStage ≠ some .claimWon)
    ∧ (s.mon.lane ≠ .running →
      ∃ t, exec (.stop src dst) s = .next t ∧ t.mon.last = some ⟨.stop, .refusedState, some src, s.clock⟩
        ∧ (s.mon.lane ≠ .stopping → t.mon.lane = s.mon.lane)))
    ∧ (∀ (s : State) (src : Station) (dst : BitVec 4) (z : Fin 8) (p : PalletRecord), offered s src dst → startAccepted s →
      (∀ y, y ≠ z → (s.transfer y).isAbandoned = false) → (s.transfer z).isAbandoned = true →
      s.seq.reject.isAbandoned = false → s.pallet (srcZone z) = some p →
      (s.eye (dstZone z) = true →
        ∃ t q, exec (.start src dst) s = .next t ∧ t.pallet (dstZone z) = some q ∧ samePallet p q
          ∧ t.pallet (srcZone z) = none
          ∧ (s.eye (srcZone z) = true → t.mon.lane = .fault
              ∧ (s.mon.faults.length ≤ 6 ∨ (z ≠ 7 ∧ room s) →
                  listedPresent t .overlength (some ((srcZone z).castLE (by decide)))))
          ∧ (s.eye (srcZone z) = false → z ≠ 7 → t.mon.lane = .running))
      ∧ (s.eye (dstZone z) = false →
        ∃ t q, exec (.start src dst) s = .next t ∧ t.mon.lane = .running ∧ t.pallet (srcZone z) = some q ∧ samePallet p q
          ∧ (goesOn s z p → t.transfer z = .running s.clock ∧ t.zone (srcZone z) = .departing
              ∧ t.zone (dstZone z) = .arriving)
          ∧ (¬goesOn s z p → t.transfer z = .idle ∧ t.zone (dstZone z) = .empty
              ∧ (z ≠ 4 → t.zone (srcZone z) = .ready)
              ∧ (z = 4 → s.inp.rejectFull = false → s.inp.rejectEye = false →
                  (p.manifest = none ∨ s.tx.rejectReserved = true ∨ 3 ≤ s.seqFree) →
                  t.seq.reject = .running s.clock ∧ t.zone zDivert = .departing)
              ∧ (z = 4 → (s.inp.rejectFull = true ∨ s.inp.rejectEye = true
                    ∨ (p.manifest ≠ none ∧ s.tx.rejectReserved = false ∧ s.seqFree = 0)) →
                  t.seq.reject = s.seq.reject ∧ t.zone zDivert = .ready))))
    ∧ ∀ (s : State) (src : Station) (dst : BitVec 4) (p : PalletRecord), offered s src dst → startAccepted s →
      (∀ z, (s.transfer z).isAbandoned = false) → s.seq.reject.isAbandoned = true → s.pallet zDivert = some p →
      (s.inp.rejectEye = true →
        ∃ t, exec (.start src dst) s = .next t ∧ t.pallet zDivert = none ∧ t.seq.reject = .idle
          ∧ (t.zone zDivert = .empty ∨ t.zone zDivert = .arriving) ∧ t.tx.rejectReserved = false
          ∧ ringTakes s t (dispatchRecord p .rejected s.clock) ∧ countsOut s t p
          ∧ (∀ m, p.manifest = some m → s.tx.rejectReserved = true → .withdrawn m.load m.seq p.reasons ∈ t.tx.sequence)
          ∧ (s.eye zDivert = true → room s → listedPresent t .overlength (some 4) ∧ t.mon.lane = .fault)
          ∧ (s.eye zDivert = false → t.mon.lane = .running))
      ∧ (s.inp.rejectEye = false → p.reasons ≠ 0 →
        ∃ t q, exec (.start src dst) s = .next t ∧ t.mon.lane = .running ∧ t.pallet zDivert = some q ∧ samePallet p q
          ∧ t.ring = s.ring
          ∧ (s.inp.rejectFull = false → (p.manifest = none ∨ s.tx.rejectReserved = true ∨ 3 ≤ s.seqFree) →
              t.seq.reject = .running s.clock ∧ t.zone zDivert = .departing ∧ t.out.rejectOut = true
              ∧ t.out.zoneDrive[4] = true ∧ (p.manifest ≠ none → t.tx.rejectReserved = true))
          ∧ (s.inp.rejectFull = true →
              t.seq.reject = .idle ∧ t.zone zDivert = .ready ∧ t.tx.rejectReserved = s.tx.rejectReserved))

/-- ACK removes every entry whose cause is gone, clears the overflow marker, and takes a lane in FAULT to STOPPED when no
immediate fault remains (R172, R177). FORCE_RELEASE: R164's checks in order, and the force mark or the forced Claim
(R164). -/
def Obligations.AckAndForceRelease : Prop :=
  ((∀ (s : State) (o : Origin), s.working = true →
    ((∃ src dst, o = .line src dst ∧ offered s src dst) ∨ (o = .push true ∧ s.inp.ackPush = false)) →
    ∃ t, exec (.ack o) s = .next t
      ∧ t.mon.faults = s.mon.faults.filter (fun e =>
          e.present && (e.kind ∈ [.estop, .duplicateAtFront, .filmLow, .forceLost, .labelLow, .cellLost]))
      ∧ t.mon.overflow = false ∧ (∃ r, t.mon.last = some r ∧ r.command = .ack ∧ r.result = .accepted)
      ∧ (s.mon.lane = .fault → (t.mon.lane = .stopped ↔
          (∀ e ∈ t.mon.faults, e.kind.immediate = false) ∧ s.inp.estop = false ∧ s.frontDuplicate = false))
      ∧ (s.mon.lane = .running ∨ s.mon.lane = .stopped → t.mon.lane = s.mon.lane))
    ∧ ∀ s : State, s.working = true →
      exec (.ack (.push false)) s = .next { s with inp := { s.inp with ackPush := false } }.finish)
    ∧ (∀ (s : State) (src : Station) (dst : BitVec 4), s.working = true → offered s src dst →
    ∃ t, exec (.forceRelease src dst) s = .next t
      ∧ (s.mon.lane ≠ .running → t.mon.last = some ⟨.forceRelease, .refusedState, some src, s.clock⟩)
      ∧ (s.mon.lane = .running → s.frontReleasable = false →
          t.mon.last = some ⟨.forceRelease, .refusedNothing, some src, s.clock⟩)
      ∧ (s.mon.lane = .running → s.frontReleasable = true → (s.noStage = false ∨ s.rel.followUp = true) →
          t.mon.last = some ⟨.forceRelease, .refusedBusy, some src, s.clock⟩)
      ∧ (s.mon.lane = .running → s.frontReleasable = true → s.noStage = true → s.rel.followUp = false →
          t.mon.last = some ⟨.forceRelease, .accepted, some src, s.clock⟩
            ∧ (t.rel.force = true ∨ t.frontStage = some .claimQueued)))

/-- PURGE: REFUSED_STATE outside STOPPED and FAULT, REFUSED_ZONE for a zone that cannot be purged, else the record leaves
with a PURGED dispatch record, counted out of its load, and the zone is EMPTY (R22, R23, R145, R184). The dispatch record
takes its fields from the pallet record and the event, 0 or absent where the pallet record has none (takenFrom, R181), and so
does dispatchRecord, which RejectTransfer, OwnNoticeCompletes and LaneRestart name for their outcomes. -/
def Obligations.Purge : Prop :=
  (∀ (p : PalletRecord) (o : DispatchOutcome) (now : Ms), takenFrom p o now (dispatchRecord p o now))
    ∧ ∀ (s : State) (src : Station) (dst : BitVec 4) (zone : Byte), s.working = true → offered s src dst →
    (s.mon.lane ≠ .stopped → s.mon.lane ≠ .fault →
      ∃ t, exec (.purge src dst zone) s = .next t
        ∧ t.mon.last = some ⟨.purge zone, .refusedState, some src, s.clock⟩
        ∧ t = ((s.heard src).record (.purge zone) .refusedState (some src)).finish)
    ∧ (s.mon.lane = .stopped ∨ s.mon.lane = .fault →
      (9 ≤ zone.toNat ∨ (∃ z : Fin 9, z.val = zone.toNat ∧ (s.pallet z = none ∨ s.eye z = true
        ∨ ∃ p, s.pallet z = some p ∧ p.stage = .exiting))) →
      ∃ t, exec (.purge src dst zone) s = .next t
        ∧ t.mon.last = some ⟨.purge zone, .refusedZone, some src, s.clock⟩
        ∧ t = ((s.heard src).record (.purge zone) .refusedZone (some src)).finish)
    ∧ ∀ (z : Fin 9) (p : PalletRecord), (s.mon.lane = .stopped ∨ s.mon.lane = .fault) → z.val = zone.toNat →
      s.pallet z = some p → s.eye z = false → p.stage ≠ .exiting → recordsFit s →
      ∃ t r, exec (.purge src dst zone) s = .next t
        ∧ t.mon.last = some ⟨.purge zone, .accepted, some src, s.clock⟩ ∧ t.pallet z = none ∧ t.zone z = .empty
        ∧ ringTakes s t r ∧ takenFrom p .purged s.clock r ∧ countsOut s t p
        ∧ ∀ m, p.manifest = some m → p.stage = .claimWon → s.rel.followUp = true →
            .abandon m.load m.seq ∈ t.tx.sequence ∧ t.rel.followUp = false

/-- RESTART: refused outside STOPPED and FAULT; else every motion, with the wrap and its outputs, every record and every
Sequence notice is gone, each identified record with its CLEARED dispatch record, each blocked eye has its orphan, and the
lane is STOPPED (R24 to R28). -/
def Obligations.LaneRestart : Prop :=
  (∀ (s : State) (o : Origin), s.working = true →
    ((∃ src dst, o = .line src dst ∧ offered s src dst) ∨ (o = .push true ∧ s.inp.restartPush = false)) →
    (s.mon.lane = .running ∨ s.mon.lane = .stopping →
      ∃ t r, exec (.restart o) s = .next t ∧ t.mon.last = some r ∧ r.command = .restart ∧ r.result = .refusedState
        ∧ t.ring = s.ring)
    ∧ (s.mon.lane = .stopped ∨ s.mon.lane = .fault →
      ∃ t r, exec (.restart o) s = .next t ∧ t.mon.last = some r ∧ r.command = .restart ∧ r.result = .accepted
        ∧ t.mon.lane = .stopped ∧ (∀ z, t.transfer z = .idle) ∧ t.seq.reject = .idle ∧ t.seq.exit = .idle
        ∧ t.track.exitSlot = none ∧ t.tracker = [] ∧ t.rel = ⟨false, false, none⟩ ∧ t.tx.rejectReserved = false
        ∧ t.line.inFlight ≠ some .sequence ∧ t.weigh.window = [] ∧ t.cache = s.cache
        ∧ t.wrap.state = .idle ∧ t.wrap.turntable = false ∧ t.wrap.carriageUp = false ∧ t.wrap.carriageDown = false
        ∧ t.wrap.filmClamp = false ∧ t.wrap.cutter = false ∧ t.wrap.stall = none ∧ t.wrap.cutSince = none
        ∧ t.wrap.mastCmp.armed = false ∧ t.wrap.angleCmp.armed = false
        ∧ (s.ring.records.length ≤ 22 → t.ring.lost = s.ring.lost ∧ t.ring.records = s.ring.records
            ++ (((allZones.filterMap s.pallet).filter (·.manifest.isSome)) ++ s.track.exitSlot.toList).map
                (fun p => dispatchRecord p .cleared s.clock))
        ∧ (∀ z, s.eye z = true → t.zone z = .ready ∧ ∃ q, t.pallet z = some q ∧ q.orphan = true ∧ q.ident = none
            ∧ q.manifest = none ∧ q.reasons = Reason.orphan.word ∧ q.arrival = s.clock)
        ∧ (∀ z, s.eye z = false → t.zone z = .empty ∧ t.pallet z = none)
        ∧ (∀ p m, s.pallet zFront = some p → p.manifest = some m → (p.stage = .claimWon ∨ p.stage = .exiting) →
            t.tx.sequence = [.abandon m.load m.seq])
        ∧ ((∀ p, s.pallet zFront = some p → p.stage ≠ .claimWon ∧ p.stage ≠ .exiting) → t.tx.sequence = [])))
    ∧ ∀ s : State, s.working = true →
      exec (.restart (.push false)) s = .next { s with inp := { s.inp with restartPush := false } }.finish

/-! ## Status replies and the line's encoding (chapters 10 and 12) -/

/-- A Status Request joins its whole reply to the Report queue, addressed to its source, or nothing when the reply does
not fit; the parts of the state listed are not changed (R139, R185). The reply is OK, NONE or INVALID in the parts that R185
gives, each of 28 bytes, and holds the fields of R49, R186 and R187 in the layout of R200, with the codes of R201. That
STATUS_REQUEST_INVALID given with an assigned subject is answered INVALID is the model's choice (log 29), as are the sides
PENDING of a BLOCKED job in ZONE(2) (log 32). -/
def Obligations.StatusReplies : Prop :=
  (∀ (s : State) (src : Station) (dst : BitVec 4) (subject index : Byte) (c : Instr) (parts : List (List Byte)),
    s.working = true → offered s src dst →
    ((c, parts) ∈ [(Instr.statusLane src dst index, laneReply index (s.heard src)),
      (.statusCounters src dst index, countersReply index (s.heard src)),
      (.statusFaults src dst index, faultsReply index (s.heard src)),
      (.statusView src dst index, viewReply index (s.heard src)),
      (.statusProbe src dst index, probeReply index (s.heard src)),
      (.statusZone src dst index, zoneReply index (s.heard src)),
      (.statusRequestInvalid src dst subject index, invalidReply subject index)]) →
    ∃ t, exec c s = .next t
      ∧ t.tx.report = (if s.tx.report.length + parts.length ≤ 8 then s.tx.report ++ parts.map (Notice.statusReply src)
          else s.tx.report)
      ∧ (1 ≤ parts.length ∧ parts.length ≤ 3 ∧ ∀ b ∈ parts, b.length = 28)
      ∧ t.clock = s.clock ∧ t.cache = s.cache ∧ t.view = s.view ∧ t.ring = s.ring ∧ t.bed = s.bed
      ∧ t.mon.faults = s.mon.faults ∧ t.mon.last = s.mon.last)
    ∧ (∀ (s : State) (index : Byte),
      replyIs (laneReply index s) 0 index 0 1 (laneFields s) ∧ replyIs (countersReply index s) 5 index 0 1 (countersFields s)
      ∧ (∀ e, index.toNat < 8 → s.mon.faults[index.toNat]? = some e →
          replyIs (faultsReply index s) 2 index 0 1 (faultFields s (some e)))
      ∧ (index.toNat < 8 → s.mon.faults.length ≤ index.toNat → replyIs (faultsReply index s) 2 index 1 1 (faultFields s none))
      ∧ (∀ e, index.toNat < 16 → s.view.entries[index.toNat]? = some e →
          replyIs (viewReply index s) 3 index 0 1 (viewFields s (some e)))
      ∧ (index.toNat < 16 → s.view.entries.length ≤ index.toNat → replyIs (viewReply index s) 3 index 1 1 (viewFields s none))
      ∧ (∀ (i : Fin 16) (w : Fin 4), index.toNat = 4 * i.val + w.val →
          replyIs (probeReply index s) 4 index 0 2 (probeFields (s.cacheSet i) w))
      ∧ (∀ z : Fin 9, index.toNat = z.val → replyIs (zoneReply index s) 1 index 0 (if z = 2 then 3 else 2)
          (summaryFields (s.zone z).code (s.pallet z) ++ addedFields s z))
      ∧ (index.toNat = 9 → replyIs (zoneReply index s) 1 index 0 2 (summaryFields 0 s.track.exitSlot ++ [(38, 12, 0)]))
      ∧ (8 ≤ index.toNat → replyIs (faultsReply index s) 2 index 2 1 [(0, 25, 0)])
      ∧ (16 ≤ index.toNat → replyIs (viewReply index s) 3 index 2 1 [(0, 25, 0)])
      ∧ (64 ≤ index.toNat → replyIs (probeReply index s) 4 index 2 1 [(0, 25, 0)])
      ∧ (10 ≤ index.toNat → replyIs (zoneReply index s) 1 index 2 1 [(0, 25, 0)])
      ∧ ∀ subject, replyIs (invalidReply subject index) subject index 2 1 [(0, 25, 0)])
    ∧ [LaneState.config, .unconfigured, .stopped, .running, .stopping, .fault].map LaneState.code = List.range 6
    ∧ [ZoneState.empty, .arriving, .occupied, .ready, .departing].map ZoneState.code = List.range 5
    ∧ [Stage.waiting, .claimQueued, .claimWon, .exiting, .exited].map Stage.code = List.range 5
    ∧ [WeighState.idle, .blocked, .settling, .settled, .expired].map WeighState.code = List.range 5
    ∧ [WrapState.idle, .homing, .start, .bottom, .rise, .top, .descend, .park, .cut, .done, .aborted].map WrapState.code
        = List.range 11
    ∧ [WrapOutcome.none, .skipped, .done, .aborted].map WrapOutcome.code = List.range 4
    ∧ [LabelOutcome.none, .notNeeded, .applied, .failed true false].map LabelOutcome.code = List.range 4
    ∧ [JobPhase.blocked, .printing, .consented, .armed, .fired].map JobPhase.code = [1, 2, 3, 4, 5]
    ∧ [SideState.pending, .ready, .error, .fired, .seen, .missed].map SideState.code = [1, 2, 3, 4, 5, 6]
    ∧ [Command.start, .stop, .ack, .forceRelease, .purge 0, .restart].map Command.code = [1, 2, 3, 4, 5, 6]
    ∧ [Result.accepted, .refusedState, .refusedNothing, .refusedBusy, .refusedZone].map Result.code = List.range 5
    ∧ [FaultKind.estop, .jam, .overlength, .filmBreak, .mastLost, .turntableStall, .exitTimeout, .duplicateAtFront,
        .doubleClaim, .filmLow, .forceLost, .forceHigh, .turntableSlip, .labelLow, .cellLost, .bedNotZero,
        .addressClash].map FaultKind.code = List.range 17

/-- Bit stuffing: a receiver deletes just the levels that were inserted, and no six equal levels stand in the content
(R195). -/
def Obligations.StuffingRoundTrip : Prop :=
  ∀ bits : List Bool, destuff (stuff bits) = bits
    ∧ ∀ (before after : List Bool) (b : Bool), stuff bits ≠ before ++ List.replicate 6 b ++ after

/-- What a station sends for each command that travels as a notice is read back as that command: header, body layout, check
word and stuffing (R127, R128, R194 to R198), with R201's command and subject codes. The kinds that no lane takes, 1, 6, 9,
10, 11 and 13, are read back as PEER_NOTICE_IGNORED, whatever their body, and so are this lane's own notices of these kinds
at a peer, to the destinations of R137. The bodies that a lane sends are laid out as R198 and R199 say, with R201's outcome
codes; for the Fault Report see FaultInputs, for the Status Reply StatusReplies. -/
def Obligations.NoticesDecodeToCommands : Prop :=
  (∀ (src : Station) (dst : BitVec 4),
    (∀ m : Manifest, levelsCommand (stuff (bytesBits (content src.val 0 dst.toNat (manifestBody m))))
      = some (.manifest src dst m))
    ∧ (∀ x : BitVec 32, levelsCommand (stuff (bytesBits (content src.val 2 dst.toNat (beBytes 4 x.toNat))))
      = some (.manifestVoid src dst x))
    ∧ (∀ (load : BitVec 16) (k : BitVec 8) (f : Bool) (x : BitVec 32),
        levelsCommand (stuff (bytesBits (content src.val 3 dst.toNat (Notice.claim load k f x).body)))
          = some (.claim src dst load k f x)
        ∧ levelsCommand (stuff (bytesBits (content src.val 4 dst.toNat (Notice.released load k).body)))
          = some (.released src dst load k)
        ∧ levelsCommand (stuff (bytesBits (content src.val 5 dst.toNat (Notice.abandon load k).body)))
          = some (.abandon src dst load k))
    ∧ (∀ load n : BitVec 16,
        levelsCommand (stuff (bytesBits (content src.val 7 dst.toNat (beBytes 2 load.toNat ++ beBytes 2 n.toNat))))
          = some (.skip src dst load n)
        ∧ levelsCommand (stuff (bytesBits (content src.val 8 dst.toNat (beBytes 2 load.toNat))))
          = some (.loadClose src dst load))
    ∧ (∀ code arg : Byte,
        levelsCommand (stuff (bytesBits (content src.val 12 dst.toNat [code, arg]))) = some (statusRequestOf src dst code arg)
        ∧ levelsCommand (stuff (bytesBits (content src.val 14 dst.toNat [code, arg]))) = some (laneCommandOf src dst code arg)
        ∧ (∀ row ∈ [((0 : Byte), Instr.statusLane src dst arg), (1, .statusZone src dst arg), (2, .statusFaults src dst arg),
              (3, .statusView src dst arg), (4, .statusProbe src dst arg), (5, .statusCounters src dst arg)],
            levelsCommand (stuff (bytesBits (content src.val 12 dst.toNat [row.1, arg]))) = some row.2)
        ∧ (∀ row ∈ [((1 : Byte), Instr.start src dst), (2, .stop src dst), (3, .ack (.line src dst)), (4, .forceRelease src dst),
              (5, .purge src dst arg), (6, .restart (.line src dst))],
            levelsCommand (stuff (bytesBits (content src.val 14 dst.toNat [row.1, arg]))) = some row.2)
        ∧ (5 < code.toNat →
            levelsCommand (stuff (bytesBits (content src.val 12 dst.toNat [code, arg]))) = some (.statusRequestInvalid src dst code arg))
        ∧ (code = 0 ∨ 6 < code.toNat →
            levelsCommand (stuff (bytesBits (content src.val 14 dst.toNat [code, arg]))) = some (.laneCommandUnassigned src dst code)))
    ∧ ∀ (kind : Fin 15) (size : Nat) (body : List Byte),
        (kind.val, size) ∈ [(1, 4), (6, 6), (9, 6), (10, 28), (11, 8), (13, 28)] → body.length = size →
        levelsCommand (stuff (bytesBits (content src.val kind.val dst.toNat body))) = some (.peerNoticeIgnored src dst kind))
    ∧ (∀ (src : Station) (recordAddr : BitVec 4) (n : Notice) (dst : BitVec 4) (kind : Fin 15),
        ((∃ x tag, n = .manifestRequest x tag ∧ dst = 15#4 ∧ kind = 1)
          ∨ (∃ load k reasons, n = .withdrawn load k reasons ∧ dst = 15#4 ∧ kind = 6)
          ∨ (∃ load k next, n = .stalled load k next ∧ dst = 15#4 ∧ kind = 9)
          ∨ (∃ b, n = .faultReport b ∧ b.length = 8 ∧ dst = recordAddr ∧ kind = 11)
          ∨ (∃ d b, n = .statusReply d b ∧ b.length = 28 ∧ dst.toNat = d.val ∧ kind = 13)) →
        levelsCommand (stuff (bytesBits (noticeContent src recordAddr n))) = some (.peerNoticeIgnored src dst kind))
    ∧ (∀ (src : Station) (recordAddr : BitVec 4) (r : DispatchRecord),
        levelsCommand (stuff (bytesBits (recordContent src recordAddr r))) = some (.peerNoticeIgnored src recordAddr 10)
          ∧ bodyIs (recordBody r) 28 (recordFields r))
    ∧ (∀ (x : BitVec 32) (tag : BitVec 8), bodyIs (Notice.manifestRequest x tag).body 4 [(0, 4, x.toNat)])
    ∧ (∀ (load : BitVec 16) (k : BitVec 8),
        (∀ f x, bodyIs (Notice.claim load k f x).body 8
          [(0, 2, load.toNat), (2, 1, k.toNat), (3, 1, flag f 1), (4, 4, x.toNat)])
        ∧ bodyIs (Notice.released load k).body 4 [(0, 2, load.toNat), (2, 1, k.toNat), (3, 1, 0)]
        ∧ bodyIs (Notice.abandon load k).body 4 [(0, 2, load.toNat), (2, 1, k.toNat), (3, 1, 0)]
        ∧ (∀ reasons, bodyIs (Notice.withdrawn load k reasons).body 6
          [(0, 2, load.toNat), (2, 1, k.toNat), (3, 1, 0), (4, 2, reasons.toNat)])
        ∧ ∀ next, bodyIs (Notice.stalled load k next).body 6 [(0, 2, load.toNat), (2, 1, k.toNat), (3, 1, 0), (4, 2, next)])
    ∧ [DispatchOutcome.released, .rejected, .purged, .cleared].map DispatchOutcome.code = List.range 4

end
end

