-- ==== Sys2Proof/Laws/State.lean ====
section
/-! SUPPORT. What each plain update of the state writes, and every part that it leaves: the frame of an update is one
lemma, whose equations simp takes one by one. No later proof unfolds a record update. -/

namespace Sys2Proof.Machine

/-! ## What a write leaves to read -/

@[simp] theorem State.setZone_zone_self (s : State) (z : Fin 9) (v : ZoneState) : (s.setZone z v).zone z = v := by
  simp [State.setZone, State.zone]

@[simp] theorem State.setZone_zone_other (s : State) (z y : Fin 9) (v : ZoneState) (h : y ≠ z) :
    (s.setZone z v).zone y = s.zone y := by
  have : z.val ≠ y.val := fun e => h (Fin.ext e.symm)
  simp [State.setZone, State.zone, this]

@[simp] theorem State.setPallet_pallet_self (s : State) (z : Fin 9) (r : Option PalletRecord) :
    (s.setPallet z r).pallet z = r := by
  simp [State.setPallet, State.pallet]

@[simp] theorem State.setPallet_pallet_other (s : State) (z y : Fin 9) (r : Option PalletRecord) (h : y ≠ z) :
    (s.setPallet z r).pallet y = s.pallet y := by
  have : z.val ≠ y.val := fun e => h (Fin.ext e.symm)
  simp [State.setPallet, State.pallet, this]

@[simp] theorem State.updPallet_pallet_self (s : State) (z : Fin 9) (f : PalletRecord → PalletRecord) :
    (s.updPallet z f).pallet z = (s.pallet z).map f := by
  simp [State.updPallet]

@[simp] theorem State.updPallet_pallet_other (s : State) (z y : Fin 9) (f : PalletRecord → PalletRecord) (h : y ≠ z) :
    (s.updPallet z f).pallet y = s.pallet y := by
  simp [State.updPallet, h]

@[simp] theorem State.setTransfer_transfer_self (s : State) (z : Fin 8) (m : Motion) :
    (s.setTransfer z m).transfer z = m := by
  simp [State.setTransfer, State.transfer]

@[simp] theorem State.setTransfer_transfer_other (s : State) (z y : Fin 8) (m : Motion) (h : y ≠ z) :
    (s.setTransfer z m).transfer y = s.transfer y := by
  have : z.val ≠ y.val := fun e => h (Fin.ext e.symm)
  simp [State.setTransfer, State.transfer, this]

@[simp] theorem State.setPallet_zone (s : State) (z y : Fin 9) (r : Option PalletRecord) :
    (s.setPallet z r).zone y = s.zone y := rfl
@[simp] theorem State.setZone_pallet (s : State) (z y : Fin 9) (v : ZoneState) : (s.setZone z v).pallet y = s.pallet y := rfl
@[simp] theorem State.setZone_transfer (s : State) (z : Fin 9) (y : Fin 8) (v : ZoneState) :
    (s.setZone z v).transfer y = s.transfer y := rfl
@[simp] theorem State.setTransfer_zone (s : State) (z : Fin 8) (y : Fin 9) (m : Motion) :
    (s.setTransfer z m).zone y = s.zone y := rfl
@[simp] theorem State.setTransfer_pallet (s : State) (z : Fin 8) (y : Fin 9) (m : Motion) :
    (s.setTransfer z m).pallet y = s.pallet y := rfl
@[simp] theorem State.setLane_lane (s : State) (l : LaneState) : (s.setLane l).mon.lane = l := by
  unfold State.setLane
  split
  · assumption
  · rfl
@[simp] theorem State.joinSequence_sequence (s : State) (n : Notice) :
    (s.joinSequence n).tx.sequence = s.tx.sequence ++ [n] := rfl
@[simp] theorem State.releaseFollowUp_followUp (s : State) : s.releaseFollowUp.rel.followUp = false := rfl
@[simp] theorem State.putTouched_entries (s : State) (e : LoadEntry) :
    (s.putTouched e).view.entries = e :: withoutLoad e.load s.view.entries := rfl
@[simp] theorem State.putTouched_loadEntry (s : State) (e : LoadEntry) :
    (s.putTouched e).loadEntry e.load = some e := by
  simp [State.putTouched, State.loadEntry]
@[simp] theorem State.emptyWindow_weigh (s : State) :
    s.emptyWindow.weigh = { s.weigh with window := [], sumW := Corners.zero, sumG := 0 } := rfl
@[simp] theorem State.setTableJob_tableJob (s : State) (j : Option Job) : (s.setTableJob j).label.tableJob = j := rfl
@[simp] theorem State.setLabelJob_labelJob (s : State) (j : Option Job) : (s.setLabelJob j).label.labelJob = j := rfl
@[simp] theorem State.record_last (s : State) (c : Command) (r : Result) (o : Option Station) :
    (s.record c r o).mon.last = some ⟨c, r, o, s.clock⟩ := rfl
@[simp] theorem State.setCacheSet_self (s : State) (i : Fin 16) (c : CacheSet) : (s.setCacheSet i c).cacheSet i = c := by
  simp [State.setCacheSet, State.cacheSet]

@[simp] theorem State.setCacheSet_other (s : State) (i k : Fin 16) (c : CacheSet) (h : k ≠ i) :
    (s.setCacheSet i c).cacheSet k = s.cacheSet k := by
  have : i.val ≠ k.val := fun e => h (Fin.ext e.symm)
  simp [State.setCacheSet, State.cacheSet, this]

/-! ## Frames -/

@[simp] theorem State.setZone_frame (s : State) (z : Fin 9) (v : ZoneState) :
    (s.setZone z v).clock = s.clock ∧ (s.setZone z v).image = s.image ∧ (s.setZone z v).inp = s.inp
      ∧ (s.setZone z v).out = s.out ∧ (s.setZone z v).seq.transfers = s.seq.transfers
      ∧ (s.setZone z v).seq.reject = s.seq.reject ∧ (s.setZone z v).seq.exit = s.seq.exit
      ∧ (s.setZone z v).track = s.track ∧ (s.setZone z v).read = s.read ∧ (s.setZone z v).cache = s.cache
      ∧ (s.setZone z v).tracker = s.tracker ∧ (s.setZone z v).bed = s.bed ∧ (s.setZone z v).weigh = s.weigh
      ∧ (s.setZone z v).wrap = s.wrap ∧ (s.setZone z v).label = s.label ∧ (s.setZone z v).view = s.view
      ∧ (s.setZone z v).rel = s.rel ∧ (s.setZone z v).line = s.line ∧ (s.setZone z v).tx = s.tx
      ∧ (s.setZone z v).ring = s.ring ∧ (s.setZone z v).mon = s.mon ∧ (s.setZone z v).free = s.free
      ∧ (s.setZone z v).pending = s.pending := by simp [State.setZone]

@[simp] theorem State.setPallet_frame (s : State) (z : Fin 9) (r : Option PalletRecord) :
    (s.setPallet z r).clock = s.clock ∧ (s.setPallet z r).image = s.image ∧ (s.setPallet z r).inp = s.inp
      ∧ (s.setPallet z r).out = s.out ∧ (s.setPallet z r).seq = s.seq
      ∧ (s.setPallet z r).track.exitSlot = s.track.exitSlot
      ∧ (s.setPallet z r).track.tagCounter = s.track.tagCounter ∧ (s.setPallet z r).track.issued = s.track.issued
      ∧ (s.setPallet z r).read = s.read ∧ (s.setPallet z r).cache = s.cache ∧ (s.setPallet z r).tracker = s.tracker
      ∧ (s.setPallet z r).bed = s.bed ∧ (s.setPallet z r).weigh = s.weigh ∧ (s.setPallet z r).wrap = s.wrap
      ∧ (s.setPallet z r).label = s.label ∧ (s.setPallet z r).view = s.view ∧ (s.setPallet z r).rel = s.rel
      ∧ (s.setPallet z r).line = s.line ∧ (s.setPallet z r).tx = s.tx ∧ (s.setPallet z r).ring = s.ring
      ∧ (s.setPallet z r).mon = s.mon ∧ (s.setPallet z r).free = s.free ∧ (s.setPallet z r).pending = s.pending := by simp [State.setPallet]

@[simp] theorem State.updPallet_frame (s : State) (z : Fin 9) (f : PalletRecord → PalletRecord) :
    (s.updPallet z f).clock = s.clock ∧ (s.updPallet z f).image = s.image ∧ (s.updPallet z f).inp = s.inp
      ∧ (s.updPallet z f).out = s.out ∧ (s.updPallet z f).seq = s.seq
      ∧ (s.updPallet z f).track.exitSlot = s.track.exitSlot
      ∧ (s.updPallet z f).track.tagCounter = s.track.tagCounter ∧ (s.updPallet z f).track.issued = s.track.issued
      ∧ (s.updPallet z f).read = s.read ∧ (s.updPallet z f).cache = s.cache ∧ (s.updPallet z f).tracker = s.tracker
      ∧ (s.updPallet z f).bed = s.bed ∧ (s.updPallet z f).weigh = s.weigh ∧ (s.updPallet z f).wrap = s.wrap
      ∧ (s.updPallet z f).label = s.label ∧ (s.updPallet z f).view = s.view ∧ (s.updPallet z f).rel = s.rel
      ∧ (s.updPallet z f).line = s.line ∧ (s.updPallet z f).tx = s.tx ∧ (s.updPallet z f).ring = s.ring
      ∧ (s.updPallet z f).mon = s.mon ∧ (s.updPallet z f).free = s.free ∧ (s.updPallet z f).pending = s.pending := by simp [State.updPallet]

@[simp] theorem State.setTransfer_frame (s : State) (z : Fin 8) (m : Motion) :
    (s.setTransfer z m).clock = s.clock ∧ (s.setTransfer z m).image = s.image ∧ (s.setTransfer z m).inp = s.inp
      ∧ (s.setTransfer z m).out = s.out ∧ (s.setTransfer z m).seq.zones = s.seq.zones
      ∧ (s.setTransfer z m).seq.reject = s.seq.reject ∧ (s.setTransfer z m).seq.exit = s.seq.exit
      ∧ (s.setTransfer z m).track = s.track ∧ (s.setTransfer z m).read = s.read
      ∧ (s.setTransfer z m).cache = s.cache ∧ (s.setTransfer z m).tracker = s.tracker
      ∧ (s.setTransfer z m).bed = s.bed ∧ (s.setTransfer z m).weigh = s.weigh ∧ (s.setTransfer z m).wrap = s.wrap
      ∧ (s.setTransfer z m).label = s.label ∧ (s.setTransfer z m).view = s.view ∧ (s.setTransfer z m).rel = s.rel
      ∧ (s.setTransfer z m).line = s.line ∧ (s.setTransfer z m).tx = s.tx ∧ (s.setTransfer z m).ring = s.ring
      ∧ (s.setTransfer z m).mon = s.mon ∧ (s.setTransfer z m).free = s.free
      ∧ (s.setTransfer z m).pending = s.pending := by simp [State.setTransfer]

@[simp] theorem State.addReason_frame (s : State) (z : Fin 9) (r : Reason) :
    (s.addReason z r).clock = s.clock ∧ (s.addReason z r).image = s.image ∧ (s.addReason z r).inp = s.inp
      ∧ (s.addReason z r).out = s.out ∧ (s.addReason z r).seq = s.seq
      ∧ (s.addReason z r).track.exitSlot = s.track.exitSlot
      ∧ (s.addReason z r).track.tagCounter = s.track.tagCounter ∧ (s.addReason z r).track.issued = s.track.issued
      ∧ (s.addReason z r).read = s.read ∧ (s.addReason z r).cache = s.cache ∧ (s.addReason z r).tracker = s.tracker
      ∧ (s.addReason z r).bed = s.bed ∧ (s.addReason z r).weigh = s.weigh ∧ (s.addReason z r).wrap = s.wrap
      ∧ (s.addReason z r).label = s.label ∧ (s.addReason z r).view = s.view ∧ (s.addReason z r).rel = s.rel
      ∧ (s.addReason z r).line = s.line ∧ (s.addReason z r).tx = s.tx ∧ (s.addReason z r).ring = s.ring
      ∧ (s.addReason z r).mon = s.mon ∧ (s.addReason z r).free = s.free ∧ (s.addReason z r).pending = s.pending := by simp [State.addReason]

@[simp] theorem State.createRecord_frame (s : State) (z : Fin 9) (orphan : Bool) :
    (s.createRecord z orphan).clock = s.clock ∧ (s.createRecord z orphan).image = s.image
      ∧ (s.createRecord z orphan).inp = s.inp ∧ (s.createRecord z orphan).out = s.out
      ∧ (s.createRecord z orphan).seq = s.seq ∧ (s.createRecord z orphan).track.exitSlot = s.track.exitSlot
      ∧ (s.createRecord z orphan).read = s.read ∧ (s.createRecord z orphan).cache = s.cache
      ∧ (s.createRecord z orphan).tracker = s.tracker ∧ (s.createRecord z orphan).bed = s.bed
      ∧ (s.createRecord z orphan).weigh = s.weigh ∧ (s.createRecord z orphan).wrap = s.wrap
      ∧ (s.createRecord z orphan).label = s.label ∧ (s.createRecord z orphan).view = s.view
      ∧ (s.createRecord z orphan).rel = s.rel ∧ (s.createRecord z orphan).line = s.line
      ∧ (s.createRecord z orphan).tx = s.tx ∧ (s.createRecord z orphan).ring = s.ring
      ∧ (s.createRecord z orphan).mon = s.mon ∧ (s.createRecord z orphan).free = s.free
      ∧ (s.createRecord z orphan).pending = s.pending := by simp [State.createRecord]

@[simp] theorem State.setLane_frame (s : State) (l : LaneState) :
    (s.setLane l).clock = s.clock ∧ (s.setLane l).image = s.image ∧ (s.setLane l).inp = s.inp
      ∧ (s.setLane l).out = s.out ∧ (s.setLane l).seq = s.seq ∧ (s.setLane l).track = s.track
      ∧ (s.setLane l).read = s.read ∧ (s.setLane l).cache = s.cache ∧ (s.setLane l).tracker = s.tracker
      ∧ (s.setLane l).bed = s.bed ∧ (s.setLane l).weigh = s.weigh ∧ (s.setLane l).wrap = s.wrap
      ∧ (s.setLane l).label = s.label ∧ (s.setLane l).view = s.view ∧ (s.setLane l).rel = s.rel
      ∧ (s.setLane l).line = s.line ∧ (s.setLane l).tx = s.tx ∧ (s.setLane l).ring = s.ring
      ∧ (s.setLane l).mon.faults = s.mon.faults ∧ (s.setLane l).mon.overflow = s.mon.overflow
      ∧ (s.setLane l).mon.last = s.mon.last ∧ (s.setLane l).mon.motions = s.mon.motions
      ∧ (s.setLane l).free = s.free ∧ (s.setLane l).pending = s.pending := by
  unfold State.setLane
  split <;> simp

@[simp] theorem State.causeGone_frame (s : State) (k : FaultKind) :
    (s.causeGone k).clock = s.clock ∧ (s.causeGone k).image = s.image ∧ (s.causeGone k).inp = s.inp
      ∧ (s.causeGone k).out = s.out ∧ (s.causeGone k).seq = s.seq ∧ (s.causeGone k).track = s.track
      ∧ (s.causeGone k).read = s.read ∧ (s.causeGone k).cache = s.cache ∧ (s.causeGone k).tracker = s.tracker
      ∧ (s.causeGone k).bed = s.bed ∧ (s.causeGone k).weigh = s.weigh ∧ (s.causeGone k).wrap = s.wrap
      ∧ (s.causeGone k).label = s.label ∧ (s.causeGone k).view = s.view ∧ (s.causeGone k).rel = s.rel
      ∧ (s.causeGone k).line = s.line ∧ (s.causeGone k).tx = s.tx ∧ (s.causeGone k).ring = s.ring
      ∧ (s.causeGone k).mon.lane = s.mon.lane ∧ (s.causeGone k).mon.overflow = s.mon.overflow
      ∧ (s.causeGone k).mon.last = s.mon.last ∧ (s.causeGone k).mon.motions = s.mon.motions
      ∧ (s.causeGone k).mon.lamp = s.mon.lamp ∧ (s.causeGone k).mon.lampSince = s.mon.lampSince
      ∧ (s.causeGone k).free = s.free ∧ (s.causeGone k).pending = s.pending := by simp [State.causeGone]

@[simp] theorem State.countLineError_frame (s : State) :
    (s.countLineError).clock = s.clock ∧ (s.countLineError).image = s.image ∧ (s.countLineError).inp = s.inp
      ∧ (s.countLineError).out = s.out ∧ (s.countLineError).seq = s.seq ∧ (s.countLineError).track = s.track
      ∧ (s.countLineError).read = s.read ∧ (s.countLineError).cache = s.cache
      ∧ (s.countLineError).tracker = s.tracker ∧ (s.countLineError).bed = s.bed ∧ (s.countLineError).weigh = s.weigh
      ∧ (s.countLineError).wrap = s.wrap ∧ (s.countLineError).label = s.label ∧ (s.countLineError).view = s.view
      ∧ (s.countLineError).rel = s.rel ∧ (s.countLineError).line.state = s.line.state
      ∧ (s.countLineError).line.lastSender = s.line.lastSender ∧ (s.countLineError).line.retry = s.line.retry
      ∧ (s.countLineError).line.collisions = s.line.collisions ∧ (s.countLineError).line.inFlight = s.line.inFlight
      ∧ (s.countLineError).line.trainPos = s.line.trainPos ∧ (s.countLineError).line.activity = s.line.activity
      ∧ (s.countLineError).line.restartSrc = s.line.restartSrc ∧ (s.countLineError).tx = s.tx
      ∧ (s.countLineError).ring = s.ring ∧ (s.countLineError).mon = s.mon ∧ (s.countLineError).free = s.free
      ∧ (s.countLineError).pending = s.pending := by simp [State.countLineError]

@[simp] theorem State.joinSequence_frame (s : State) (n : Notice) :
    (s.joinSequence n).clock = s.clock ∧ (s.joinSequence n).image = s.image ∧ (s.joinSequence n).inp = s.inp
      ∧ (s.joinSequence n).out = s.out ∧ (s.joinSequence n).seq = s.seq ∧ (s.joinSequence n).track = s.track
      ∧ (s.joinSequence n).read = s.read ∧ (s.joinSequence n).cache = s.cache
      ∧ (s.joinSequence n).tracker = s.tracker ∧ (s.joinSequence n).bed = s.bed ∧ (s.joinSequence n).weigh = s.weigh
      ∧ (s.joinSequence n).wrap = s.wrap ∧ (s.joinSequence n).label = s.label ∧ (s.joinSequence n).view = s.view
      ∧ (s.joinSequence n).rel = s.rel ∧ (s.joinSequence n).line = s.line
      ∧ (s.joinSequence n).tx.request = s.tx.request ∧ (s.joinSequence n).tx.report = s.tx.report
      ∧ (s.joinSequence n).tx.rejectReserved = s.tx.rejectReserved ∧ (s.joinSequence n).tx.pointer = s.tx.pointer
      ∧ (s.joinSequence n).ring = s.ring ∧ (s.joinSequence n).mon = s.mon ∧ (s.joinSequence n).free = s.free
      ∧ (s.joinSequence n).pending = s.pending := by simp [State.joinSequence]

@[simp] theorem State.releaseFollowUp_frame (s : State) :
    (s.releaseFollowUp).clock = s.clock ∧ (s.releaseFollowUp).image = s.image ∧ (s.releaseFollowUp).inp = s.inp
      ∧ (s.releaseFollowUp).out = s.out ∧ (s.releaseFollowUp).seq = s.seq ∧ (s.releaseFollowUp).track = s.track
      ∧ (s.releaseFollowUp).read = s.read ∧ (s.releaseFollowUp).cache = s.cache
      ∧ (s.releaseFollowUp).tracker = s.tracker ∧ (s.releaseFollowUp).bed = s.bed
      ∧ (s.releaseFollowUp).weigh = s.weigh ∧ (s.releaseFollowUp).wrap = s.wrap
      ∧ (s.releaseFollowUp).label = s.label ∧ (s.releaseFollowUp).view = s.view
      ∧ (s.releaseFollowUp).rel.force = s.rel.force ∧ (s.releaseFollowUp).rel.stall = s.rel.stall
      ∧ (s.releaseFollowUp).line = s.line ∧ (s.releaseFollowUp).tx = s.tx ∧ (s.releaseFollowUp).ring = s.ring
      ∧ (s.releaseFollowUp).mon = s.mon ∧ (s.releaseFollowUp).free = s.free
      ∧ (s.releaseFollowUp).pending = s.pending := by simp [State.releaseFollowUp]

@[simp] theorem State.putTouched_frame (s : State) (e : LoadEntry) :
    (s.putTouched e).clock = s.clock ∧ (s.putTouched e).image = s.image ∧ (s.putTouched e).inp = s.inp
      ∧ (s.putTouched e).out = s.out ∧ (s.putTouched e).seq = s.seq ∧ (s.putTouched e).track = s.track
      ∧ (s.putTouched e).read = s.read ∧ (s.putTouched e).cache = s.cache ∧ (s.putTouched e).tracker = s.tracker
      ∧ (s.putTouched e).bed = s.bed ∧ (s.putTouched e).weigh = s.weigh ∧ (s.putTouched e).wrap = s.wrap
      ∧ (s.putTouched e).label = s.label ∧ (s.putTouched e).view.skips = s.view.skips ∧ (s.putTouched e).rel = s.rel
      ∧ (s.putTouched e).line = s.line ∧ (s.putTouched e).tx = s.tx ∧ (s.putTouched e).ring = s.ring
      ∧ (s.putTouched e).mon = s.mon ∧ (s.putTouched e).free = s.free ∧ (s.putTouched e).pending = s.pending := by simp [State.putTouched]

@[simp] theorem State.putInPlace_frame (s : State) (e : LoadEntry) :
    (s.putInPlace e).clock = s.clock ∧ (s.putInPlace e).image = s.image ∧ (s.putInPlace e).inp = s.inp
      ∧ (s.putInPlace e).out = s.out ∧ (s.putInPlace e).seq = s.seq ∧ (s.putInPlace e).track = s.track
      ∧ (s.putInPlace e).read = s.read ∧ (s.putInPlace e).cache = s.cache ∧ (s.putInPlace e).tracker = s.tracker
      ∧ (s.putInPlace e).bed = s.bed ∧ (s.putInPlace e).weigh = s.weigh ∧ (s.putInPlace e).wrap = s.wrap
      ∧ (s.putInPlace e).label = s.label ∧ (s.putInPlace e).view.skips = s.view.skips ∧ (s.putInPlace e).rel = s.rel
      ∧ (s.putInPlace e).line = s.line ∧ (s.putInPlace e).tx = s.tx ∧ (s.putInPlace e).ring = s.ring
      ∧ (s.putInPlace e).mon = s.mon ∧ (s.putInPlace e).free = s.free ∧ (s.putInPlace e).pending = s.pending := by simp [State.putInPlace]

@[simp] theorem State.removeLoad_frame (s : State) (load : BitVec 16) :
    (s.removeLoad load).clock = s.clock ∧ (s.removeLoad load).image = s.image ∧ (s.removeLoad load).inp = s.inp
      ∧ (s.removeLoad load).out = s.out ∧ (s.removeLoad load).seq = s.seq ∧ (s.removeLoad load).track = s.track
      ∧ (s.removeLoad load).read = s.read ∧ (s.removeLoad load).cache = s.cache
      ∧ (s.removeLoad load).tracker = s.tracker ∧ (s.removeLoad load).bed = s.bed
      ∧ (s.removeLoad load).weigh = s.weigh ∧ (s.removeLoad load).wrap = s.wrap
      ∧ (s.removeLoad load).label = s.label ∧ (s.removeLoad load).view.skips = s.view.skips
      ∧ (s.removeLoad load).rel = s.rel ∧ (s.removeLoad load).line = s.line ∧ (s.removeLoad load).tx = s.tx
      ∧ (s.removeLoad load).ring = s.ring ∧ (s.removeLoad load).mon = s.mon ∧ (s.removeLoad load).free = s.free
      ∧ (s.removeLoad load).pending = s.pending := by simp [State.removeLoad]

@[simp] theorem State.emptyWindow_frame (s : State) :
    (s.emptyWindow).clock = s.clock ∧ (s.emptyWindow).image = s.image ∧ (s.emptyWindow).inp = s.inp
      ∧ (s.emptyWindow).out = s.out ∧ (s.emptyWindow).seq = s.seq ∧ (s.emptyWindow).track = s.track
      ∧ (s.emptyWindow).read = s.read ∧ (s.emptyWindow).cache = s.cache ∧ (s.emptyWindow).tracker = s.tracker
      ∧ (s.emptyWindow).bed = s.bed ∧ (s.emptyWindow).weigh.zb = s.weigh.zb
      ∧ (s.emptyWindow).weigh.state = s.weigh.state ∧ (s.emptyWindow).weigh.settled = s.weigh.settled
      ∧ (s.emptyWindow).weigh.tSettle = s.weigh.tSettle ∧ (s.emptyWindow).wrap = s.wrap
      ∧ (s.emptyWindow).label = s.label ∧ (s.emptyWindow).view = s.view ∧ (s.emptyWindow).rel = s.rel
      ∧ (s.emptyWindow).line = s.line ∧ (s.emptyWindow).tx = s.tx ∧ (s.emptyWindow).ring = s.ring
      ∧ (s.emptyWindow).mon = s.mon ∧ (s.emptyWindow).free = s.free ∧ (s.emptyWindow).pending = s.pending := by simp [State.emptyWindow]

@[simp] theorem State.endWeighing_frame (s : State) :
    (s.endWeighing).clock = s.clock ∧ (s.endWeighing).image = s.image ∧ (s.endWeighing).inp = s.inp
      ∧ (s.endWeighing).out = s.out ∧ (s.endWeighing).seq = s.seq ∧ (s.endWeighing).track = s.track
      ∧ (s.endWeighing).read = s.read ∧ (s.endWeighing).cache = s.cache ∧ (s.endWeighing).tracker = s.tracker
      ∧ (s.endWeighing).bed = s.bed ∧ (s.endWeighing).weigh.zb = s.weigh.zb ∧ (s.endWeighing).wrap = s.wrap
      ∧ (s.endWeighing).label = s.label ∧ (s.endWeighing).view = s.view ∧ (s.endWeighing).rel = s.rel
      ∧ (s.endWeighing).line = s.line ∧ (s.endWeighing).tx = s.tx ∧ (s.endWeighing).ring = s.ring
      ∧ (s.endWeighing).mon = s.mon ∧ (s.endWeighing).free = s.free ∧ (s.endWeighing).pending = s.pending := by simp [State.endWeighing]

@[simp] theorem State.sendDiscard_frame (s : State) :
    (s.sendDiscard).clock = s.clock ∧ (s.sendDiscard).image = s.image ∧ (s.sendDiscard).inp = s.inp
      ∧ (s.sendDiscard).out = s.out ∧ (s.sendDiscard).seq = s.seq ∧ (s.sendDiscard).track = s.track
      ∧ (s.sendDiscard).read = s.read ∧ (s.sendDiscard).cache = s.cache ∧ (s.sendDiscard).tracker = s.tracker
      ∧ (s.sendDiscard).bed = s.bed ∧ (s.sendDiscard).weigh = s.weigh ∧ (s.sendDiscard).wrap = s.wrap
      ∧ (s.sendDiscard).label.tableJob = s.label.tableJob ∧ (s.sendDiscard).label.labelJob = s.label.labelJob
      ∧ (s.sendDiscard).label.cmp = s.label.cmp ∧ (s.sendDiscard).view = s.view ∧ (s.sendDiscard).rel = s.rel
      ∧ (s.sendDiscard).line = s.line ∧ (s.sendDiscard).tx = s.tx ∧ (s.sendDiscard).ring = s.ring
      ∧ (s.sendDiscard).mon = s.mon ∧ (s.sendDiscard).free = s.free ∧ (s.sendDiscard).pending = s.pending := by simp [State.sendDiscard]

@[simp] theorem State.disarmConveyor_frame (s : State) :
    (s.disarmConveyor).clock = s.clock ∧ (s.disarmConveyor).image = s.image ∧ (s.disarmConveyor).inp = s.inp
      ∧ (s.disarmConveyor).out = s.out ∧ (s.disarmConveyor).seq = s.seq ∧ (s.disarmConveyor).track = s.track
      ∧ (s.disarmConveyor).read = s.read ∧ (s.disarmConveyor).cache = s.cache
      ∧ (s.disarmConveyor).tracker = s.tracker ∧ (s.disarmConveyor).bed = s.bed ∧ (s.disarmConveyor).weigh = s.weigh
      ∧ (s.disarmConveyor).wrap = s.wrap ∧ (s.disarmConveyor).label.tableJob = s.label.tableJob
      ∧ (s.disarmConveyor).label.labelJob = s.label.labelJob ∧ (s.disarmConveyor).label.txL = s.label.txL
      ∧ (s.disarmConveyor).label.txR = s.label.txR ∧ (s.disarmConveyor).view = s.view
      ∧ (s.disarmConveyor).rel = s.rel ∧ (s.disarmConveyor).line = s.line ∧ (s.disarmConveyor).tx = s.tx
      ∧ (s.disarmConveyor).ring = s.ring ∧ (s.disarmConveyor).mon = s.mon ∧ (s.disarmConveyor).free = s.free
      ∧ (s.disarmConveyor).pending = s.pending := by simp [State.disarmConveyor]

@[simp] theorem State.endPulse_frame (s : State) :
    (s.endPulse).clock = s.clock ∧ (s.endPulse).image = s.image ∧ (s.endPulse).inp = s.inp
      ∧ (s.endPulse).out = s.out ∧ (s.endPulse).seq = s.seq ∧ (s.endPulse).track = s.track
      ∧ (s.endPulse).read = s.read ∧ (s.endPulse).cache = s.cache ∧ (s.endPulse).tracker = s.tracker
      ∧ (s.endPulse).bed = s.bed ∧ (s.endPulse).weigh = s.weigh ∧ (s.endPulse).wrap = s.wrap
      ∧ (s.endPulse).label.tableJob = s.label.tableJob ∧ (s.endPulse).label.labelJob = s.label.labelJob
      ∧ (s.endPulse).label.txL = s.label.txL ∧ (s.endPulse).label.txR = s.label.txR
      ∧ (s.endPulse).label.cmp = s.label.cmp ∧ (s.endPulse).view = s.view ∧ (s.endPulse).rel = s.rel
      ∧ (s.endPulse).line = s.line ∧ (s.endPulse).tx = s.tx ∧ (s.endPulse).ring = s.ring ∧ (s.endPulse).mon = s.mon
      ∧ (s.endPulse).free = s.free ∧ (s.endPulse).pending = s.pending := by simp [State.endPulse]

@[simp] theorem State.setTableJob_frame (s : State) (j : Option Job) :
    (s.setTableJob j).clock = s.clock ∧ (s.setTableJob j).image = s.image ∧ (s.setTableJob j).inp = s.inp
      ∧ (s.setTableJob j).out = s.out ∧ (s.setTableJob j).seq = s.seq ∧ (s.setTableJob j).track = s.track
      ∧ (s.setTableJob j).read = s.read ∧ (s.setTableJob j).cache = s.cache ∧ (s.setTableJob j).tracker = s.tracker
      ∧ (s.setTableJob j).bed = s.bed ∧ (s.setTableJob j).weigh = s.weigh ∧ (s.setTableJob j).wrap = s.wrap
      ∧ (s.setTableJob j).label.labelJob = s.label.labelJob ∧ (s.setTableJob j).label.txL = s.label.txL
      ∧ (s.setTableJob j).label.txR = s.label.txR ∧ (s.setTableJob j).label.cmp = s.label.cmp
      ∧ (s.setTableJob j).view = s.view ∧ (s.setTableJob j).rel = s.rel ∧ (s.setTableJob j).line = s.line
      ∧ (s.setTableJob j).tx = s.tx ∧ (s.setTableJob j).ring = s.ring ∧ (s.setTableJob j).mon = s.mon
      ∧ (s.setTableJob j).free = s.free ∧ (s.setTableJob j).pending = s.pending := by simp [State.setTableJob]

@[simp] theorem State.setLabelJob_frame (s : State) (j : Option Job) :
    (s.setLabelJob j).clock = s.clock ∧ (s.setLabelJob j).image = s.image ∧ (s.setLabelJob j).inp = s.inp
      ∧ (s.setLabelJob j).out = s.out ∧ (s.setLabelJob j).seq = s.seq ∧ (s.setLabelJob j).track = s.track
      ∧ (s.setLabelJob j).read = s.read ∧ (s.setLabelJob j).cache = s.cache ∧ (s.setLabelJob j).tracker = s.tracker
      ∧ (s.setLabelJob j).bed = s.bed ∧ (s.setLabelJob j).weigh = s.weigh ∧ (s.setLabelJob j).wrap = s.wrap
      ∧ (s.setLabelJob j).label.tableJob = s.label.tableJob ∧ (s.setLabelJob j).label.txL = s.label.txL
      ∧ (s.setLabelJob j).label.txR = s.label.txR ∧ (s.setLabelJob j).label.cmp = s.label.cmp
      ∧ (s.setLabelJob j).view = s.view ∧ (s.setLabelJob j).rel = s.rel ∧ (s.setLabelJob j).line = s.line
      ∧ (s.setLabelJob j).tx = s.tx ∧ (s.setLabelJob j).ring = s.ring ∧ (s.setLabelJob j).mon = s.mon
      ∧ (s.setLabelJob j).free = s.free ∧ (s.setLabelJob j).pending = s.pending := by simp [State.setLabelJob]

@[simp] theorem State.setStage_frame (s : State) (st : Stage) :
    (s.setStage st).clock = s.clock ∧ (s.setStage st).image = s.image ∧ (s.setStage st).inp = s.inp
      ∧ (s.setStage st).out = s.out ∧ (s.setStage st).seq = s.seq
      ∧ (s.setStage st).track.exitSlot = s.track.exitSlot ∧ (s.setStage st).track.tagCounter = s.track.tagCounter
      ∧ (s.setStage st).track.issued = s.track.issued ∧ (s.setStage st).read = s.read
      ∧ (s.setStage st).cache = s.cache ∧ (s.setStage st).tracker = s.tracker ∧ (s.setStage st).bed = s.bed
      ∧ (s.setStage st).weigh = s.weigh ∧ (s.setStage st).wrap = s.wrap ∧ (s.setStage st).label = s.label
      ∧ (s.setStage st).view = s.view ∧ (s.setStage st).rel = s.rel ∧ (s.setStage st).line = s.line
      ∧ (s.setStage st).tx = s.tx ∧ (s.setStage st).ring = s.ring ∧ (s.setStage st).mon = s.mon
      ∧ (s.setStage st).free = s.free ∧ (s.setStage st).pending = s.pending := by simp [State.setStage]

@[simp] theorem State.clearForce_frame (s : State) :
    (s.clearForce).clock = s.clock ∧ (s.clearForce).image = s.image ∧ (s.clearForce).inp = s.inp
      ∧ (s.clearForce).out = s.out ∧ (s.clearForce).seq = s.seq ∧ (s.clearForce).track = s.track
      ∧ (s.clearForce).read = s.read ∧ (s.clearForce).cache = s.cache ∧ (s.clearForce).tracker = s.tracker
      ∧ (s.clearForce).bed = s.bed ∧ (s.clearForce).weigh = s.weigh ∧ (s.clearForce).wrap = s.wrap
      ∧ (s.clearForce).label = s.label ∧ (s.clearForce).view = s.view ∧ (s.clearForce).rel.followUp = s.rel.followUp
      ∧ (s.clearForce).rel.stall = s.rel.stall ∧ (s.clearForce).line = s.line ∧ (s.clearForce).tx = s.tx
      ∧ (s.clearForce).ring = s.ring ∧ (s.clearForce).mon = s.mon ∧ (s.clearForce).free = s.free
      ∧ (s.clearForce).pending = s.pending := by simp [State.clearForce]

@[simp] theorem State.joinReport_frame (s : State) (n : Notice) :
    (s.joinReport n).clock = s.clock ∧ (s.joinReport n).image = s.image ∧ (s.joinReport n).inp = s.inp
      ∧ (s.joinReport n).out = s.out ∧ (s.joinReport n).seq = s.seq ∧ (s.joinReport n).track = s.track
      ∧ (s.joinReport n).read = s.read ∧ (s.joinReport n).cache = s.cache ∧ (s.joinReport n).tracker = s.tracker
      ∧ (s.joinReport n).bed = s.bed ∧ (s.joinReport n).weigh = s.weigh ∧ (s.joinReport n).wrap = s.wrap
      ∧ (s.joinReport n).label = s.label ∧ (s.joinReport n).view = s.view ∧ (s.joinReport n).rel = s.rel
      ∧ (s.joinReport n).line = s.line ∧ (s.joinReport n).tx.sequence = s.tx.sequence
      ∧ (s.joinReport n).tx.request = s.tx.request ∧ (s.joinReport n).tx.rejectReserved = s.tx.rejectReserved
      ∧ (s.joinReport n).tx.pointer = s.tx.pointer ∧ (s.joinReport n).ring = s.ring ∧ (s.joinReport n).mon = s.mon
      ∧ (s.joinReport n).free = s.free ∧ (s.joinReport n).pending = s.pending := by
  unfold State.joinReport
  split <;> simp

@[simp] theorem State.beginWeighing_frame (s : State) :
    (s.beginWeighing).clock = s.clock ∧ (s.beginWeighing).image = s.image ∧ (s.beginWeighing).inp = s.inp
      ∧ (s.beginWeighing).out = s.out ∧ (s.beginWeighing).seq = s.seq ∧ (s.beginWeighing).track = s.track
      ∧ (s.beginWeighing).read = s.read ∧ (s.beginWeighing).cache = s.cache ∧ (s.beginWeighing).tracker = s.tracker
      ∧ (s.beginWeighing).bed = s.bed ∧ (s.beginWeighing).weigh.zb = s.weigh.zb
      ∧ (s.beginWeighing).weigh.settled = s.weigh.settled ∧ (s.beginWeighing).weigh.tSettle = s.weigh.tSettle
      ∧ (s.beginWeighing).weigh.window = s.weigh.window ∧ (s.beginWeighing).wrap = s.wrap
      ∧ (s.beginWeighing).label = s.label ∧ (s.beginWeighing).view = s.view ∧ (s.beginWeighing).rel = s.rel
      ∧ (s.beginWeighing).line = s.line ∧ (s.beginWeighing).tx = s.tx ∧ (s.beginWeighing).ring = s.ring
      ∧ (s.beginWeighing).mon = s.mon ∧ (s.beginWeighing).free = s.free ∧ (s.beginWeighing).pending = s.pending := by simp [State.beginWeighing]

@[simp] theorem State.requestDone_frame (s : State) (tag : BitVec 8) :
    (s.requestDone tag).clock = s.clock ∧ (s.requestDone tag).image = s.image ∧ (s.requestDone tag).inp = s.inp
      ∧ (s.requestDone tag).out = s.out ∧ (s.requestDone tag).seq = s.seq ∧ (s.requestDone tag).track = s.track
      ∧ (s.requestDone tag).read = s.read ∧ (s.requestDone tag).cache = s.cache ∧ (s.requestDone tag).bed = s.bed
      ∧ (s.requestDone tag).weigh = s.weigh ∧ (s.requestDone tag).wrap = s.wrap
      ∧ (s.requestDone tag).label = s.label ∧ (s.requestDone tag).view = s.view ∧ (s.requestDone tag).rel = s.rel
      ∧ (s.requestDone tag).line = s.line ∧ (s.requestDone tag).tx = s.tx ∧ (s.requestDone tag).ring = s.ring
      ∧ (s.requestDone tag).mon = s.mon ∧ (s.requestDone tag).free = s.free
      ∧ (s.requestDone tag).pending = s.pending := by simp [State.requestDone]

@[simp] theorem State.creditLine_frame (s : State) :
    (s.creditLine).clock = s.clock ∧ (s.creditLine).image = s.image ∧ (s.creditLine).inp = s.inp
      ∧ (s.creditLine).out = s.out ∧ (s.creditLine).seq = s.seq ∧ (s.creditLine).track = s.track
      ∧ (s.creditLine).read = s.read ∧ (s.creditLine).cache = s.cache ∧ (s.creditLine).tracker = s.tracker
      ∧ (s.creditLine).bed = s.bed ∧ (s.creditLine).weigh = s.weigh ∧ (s.creditLine).wrap = s.wrap
      ∧ (s.creditLine).label = s.label ∧ (s.creditLine).view = s.view ∧ (s.creditLine).rel = s.rel
      ∧ (s.creditLine).tx = s.tx ∧ (s.creditLine).ring = s.ring ∧ (s.creditLine).mon = s.mon
      ∧ (s.creditLine).free = s.free ∧ (s.creditLine).pending = s.pending := by simp [State.creditLine]

@[simp] theorem State.record_frame (s : State) (c : Command) (r : Result) (origin : Option Station) :
    (s.record c r origin).clock = s.clock ∧ (s.record c r origin).image = s.image
      ∧ (s.record c r origin).inp = s.inp ∧ (s.record c r origin).out = s.out ∧ (s.record c r origin).seq = s.seq
      ∧ (s.record c r origin).track = s.track ∧ (s.record c r origin).read = s.read
      ∧ (s.record c r origin).cache = s.cache ∧ (s.record c r origin).tracker = s.tracker
      ∧ (s.record c r origin).bed = s.bed ∧ (s.record c r origin).weigh = s.weigh
      ∧ (s.record c r origin).wrap = s.wrap ∧ (s.record c r origin).label = s.label
      ∧ (s.record c r origin).view = s.view ∧ (s.record c r origin).rel = s.rel
      ∧ (s.record c r origin).line = s.line ∧ (s.record c r origin).tx = s.tx ∧ (s.record c r origin).ring = s.ring
      ∧ (s.record c r origin).mon.lane = s.mon.lane ∧ (s.record c r origin).mon.faults = s.mon.faults
      ∧ (s.record c r origin).mon.overflow = s.mon.overflow ∧ (s.record c r origin).mon.motions = s.mon.motions
      ∧ (s.record c r origin).mon.lamp = s.mon.lamp ∧ (s.record c r origin).mon.lampSince = s.mon.lampSince
      ∧ (s.record c r origin).free = s.free ∧ (s.record c r origin).pending = s.pending := by simp [State.record]

@[simp] theorem State.stopMotions_frame (s : State) :
    (s.stopMotions).clock = s.clock ∧ (s.stopMotions).image = s.image ∧ (s.stopMotions).inp = s.inp
      ∧ (s.stopMotions).out = s.out ∧ (s.stopMotions).seq.zones = s.seq.zones ∧ (s.stopMotions).track = s.track
      ∧ (s.stopMotions).read = s.read ∧ (s.stopMotions).cache = s.cache ∧ (s.stopMotions).tracker = s.tracker
      ∧ (s.stopMotions).bed = s.bed ∧ (s.stopMotions).weigh = s.weigh ∧ (s.stopMotions).label = s.label
      ∧ (s.stopMotions).view = s.view ∧ (s.stopMotions).rel = s.rel ∧ (s.stopMotions).line = s.line
      ∧ (s.stopMotions).tx = s.tx ∧ (s.stopMotions).ring = s.ring ∧ (s.stopMotions).mon = s.mon
      ∧ (s.stopMotions).free = s.free ∧ (s.stopMotions).pending = s.pending := by simp [State.stopMotions]

@[simp] theorem State.setCacheSet_frame (s : State) (i : Fin 16) (c : CacheSet) :
    (s.setCacheSet i c).clock = s.clock ∧ (s.setCacheSet i c).image = s.image ∧ (s.setCacheSet i c).inp = s.inp
      ∧ (s.setCacheSet i c).out = s.out ∧ (s.setCacheSet i c).seq = s.seq ∧ (s.setCacheSet i c).track = s.track
      ∧ (s.setCacheSet i c).read = s.read ∧ (s.setCacheSet i c).tracker = s.tracker
      ∧ (s.setCacheSet i c).bed = s.bed ∧ (s.setCacheSet i c).weigh = s.weigh ∧ (s.setCacheSet i c).wrap = s.wrap
      ∧ (s.setCacheSet i c).label = s.label ∧ (s.setCacheSet i c).view = s.view ∧ (s.setCacheSet i c).rel = s.rel
      ∧ (s.setCacheSet i c).line = s.line ∧ (s.setCacheSet i c).tx = s.tx ∧ (s.setCacheSet i c).ring = s.ring
      ∧ (s.setCacheSet i c).mon = s.mon ∧ (s.setCacheSet i c).free = s.free
      ∧ (s.setCacheSet i c).pending = s.pending := by simp [State.setCacheSet]

@[simp] theorem State.idleLine_frame (s : State) :
    (s.idleLine).clock = s.clock ∧ (s.idleLine).image = s.image ∧ (s.idleLine).inp = s.inp
      ∧ (s.idleLine).out = s.out ∧ (s.idleLine).seq = s.seq ∧ (s.idleLine).track = s.track
      ∧ (s.idleLine).read = s.read ∧ (s.idleLine).cache = s.cache ∧ (s.idleLine).tracker = s.tracker
      ∧ (s.idleLine).bed = s.bed ∧ (s.idleLine).weigh = s.weigh ∧ (s.idleLine).wrap = s.wrap
      ∧ (s.idleLine).label = s.label ∧ (s.idleLine).view = s.view ∧ (s.idleLine).rel = s.rel
      ∧ (s.idleLine).line.lastSender = s.line.lastSender ∧ (s.idleLine).line.lineErrors = s.line.lineErrors
      ∧ (s.idleLine).line.retry = s.line.retry ∧ (s.idleLine).line.collisions = s.line.collisions
      ∧ (s.idleLine).line.inFlight = s.line.inFlight ∧ (s.idleLine).line.trainPos = s.line.trainPos
      ∧ (s.idleLine).line.activity = s.line.activity ∧ (s.idleLine).line.restartSrc = s.line.restartSrc
      ∧ (s.idleLine).tx = s.tx ∧ (s.idleLine).ring = s.ring ∧ (s.idleLine).mon = s.mon ∧ (s.idleLine).free = s.free
      ∧ (s.idleLine).pending = s.pending := by simp [State.idleLine]

end Sys2Proof.Machine
end

