-- ==== Sys2Proof/Laws/Ops.lean ====
section
/-! SUPPORT. The frames of the shared operations: every part of the state that an operation cannot write. -/

namespace Sys2Proof.Machine

@[simp] theorem State.joinFollowUp_frame (s : State) (n : Notice) :
    (s.joinFollowUp n).clock = s.clock ∧ (s.joinFollowUp n).image = s.image ∧ (s.joinFollowUp n).inp = s.inp
      ∧ (s.joinFollowUp n).out = s.out ∧ (s.joinFollowUp n).seq = s.seq ∧ (s.joinFollowUp n).track = s.track
      ∧ (s.joinFollowUp n).read = s.read ∧ (s.joinFollowUp n).cache = s.cache
      ∧ (s.joinFollowUp n).tracker = s.tracker ∧ (s.joinFollowUp n).bed = s.bed ∧ (s.joinFollowUp n).weigh = s.weigh
      ∧ (s.joinFollowUp n).wrap = s.wrap ∧ (s.joinFollowUp n).label = s.label ∧ (s.joinFollowUp n).view = s.view
      ∧ (s.joinFollowUp n).rel.force = s.rel.force ∧ (s.joinFollowUp n).rel.stall = s.rel.stall
      ∧ (s.joinFollowUp n).line = s.line ∧ (s.joinFollowUp n).tx.request = s.tx.request
      ∧ (s.joinFollowUp n).tx.report = s.tx.report ∧ (s.joinFollowUp n).tx.rejectReserved = s.tx.rejectReserved
      ∧ (s.joinFollowUp n).tx.pointer = s.tx.pointer ∧ (s.joinFollowUp n).ring = s.ring
      ∧ (s.joinFollowUp n).mon = s.mon ∧ (s.joinFollowUp n).free = s.free ∧ (s.joinFollowUp n).pending = s.pending := by
  simp only [State.joinFollowUp]
  (repeat' split) <;> simp

@[simp] theorem State.joinWithdrawn_frame (s : State) (n : Notice) :
    (s.joinWithdrawn n).clock = s.clock ∧ (s.joinWithdrawn n).image = s.image ∧ (s.joinWithdrawn n).inp = s.inp
      ∧ (s.joinWithdrawn n).out = s.out ∧ (s.joinWithdrawn n).seq = s.seq ∧ (s.joinWithdrawn n).track = s.track
      ∧ (s.joinWithdrawn n).read = s.read ∧ (s.joinWithdrawn n).cache = s.cache
      ∧ (s.joinWithdrawn n).tracker = s.tracker ∧ (s.joinWithdrawn n).bed = s.bed
      ∧ (s.joinWithdrawn n).weigh = s.weigh ∧ (s.joinWithdrawn n).wrap = s.wrap
      ∧ (s.joinWithdrawn n).label = s.label ∧ (s.joinWithdrawn n).view = s.view ∧ (s.joinWithdrawn n).rel = s.rel
      ∧ (s.joinWithdrawn n).line = s.line ∧ (s.joinWithdrawn n).tx.request = s.tx.request
      ∧ (s.joinWithdrawn n).tx.report = s.tx.report ∧ (s.joinWithdrawn n).tx.pointer = s.tx.pointer
      ∧ (s.joinWithdrawn n).ring = s.ring ∧ (s.joinWithdrawn n).mon = s.mon ∧ (s.joinWithdrawn n).free = s.free
      ∧ (s.joinWithdrawn n).pending = s.pending := by
  simp only [State.joinWithdrawn]
  (repeat' split) <;> simp

@[simp] theorem State.removeRequest_frame (s : State) (tag : BitVec 8) :
    (s.removeRequest tag).clock = s.clock ∧ (s.removeRequest tag).image = s.image
      ∧ (s.removeRequest tag).inp = s.inp ∧ (s.removeRequest tag).out = s.out ∧ (s.removeRequest tag).seq = s.seq
      ∧ (s.removeRequest tag).track = s.track ∧ (s.removeRequest tag).read = s.read
      ∧ (s.removeRequest tag).cache = s.cache ∧ (s.removeRequest tag).tracker = s.tracker
      ∧ (s.removeRequest tag).bed = s.bed ∧ (s.removeRequest tag).weigh = s.weigh
      ∧ (s.removeRequest tag).wrap = s.wrap ∧ (s.removeRequest tag).label = s.label
      ∧ (s.removeRequest tag).view = s.view ∧ (s.removeRequest tag).rel = s.rel
      ∧ (s.removeRequest tag).line.state = s.line.state ∧ (s.removeRequest tag).line.lastSender = s.line.lastSender
      ∧ (s.removeRequest tag).line.lineErrors = s.line.lineErrors ∧ (s.removeRequest tag).line.retry = s.line.retry
      ∧ (s.removeRequest tag).line.collisions = s.line.collisions
      ∧ (s.removeRequest tag).line.inFlight = s.line.inFlight
      ∧ (s.removeRequest tag).line.trainPos = s.line.trainPos
      ∧ (s.removeRequest tag).line.activity = s.line.activity
      ∧ (s.removeRequest tag).line.restartSrc = s.line.restartSrc
      ∧ (s.removeRequest tag).tx.sequence = s.tx.sequence ∧ (s.removeRequest tag).tx.report = s.tx.report
      ∧ (s.removeRequest tag).tx.rejectReserved = s.tx.rejectReserved
      ∧ (s.removeRequest tag).tx.pointer = s.tx.pointer ∧ (s.removeRequest tag).ring = s.ring
      ∧ (s.removeRequest tag).mon = s.mon ∧ (s.removeRequest tag).free = s.free
      ∧ (s.removeRequest tag).pending = s.pending := by
  unfold State.removeRequest
  split <;> simp

@[simp] theorem State.freeEntry_frame (s : State) (tag : BitVec 8) :
    (s.freeEntry tag).clock = s.clock ∧ (s.freeEntry tag).image = s.image ∧ (s.freeEntry tag).inp = s.inp
      ∧ (s.freeEntry tag).out = s.out ∧ (s.freeEntry tag).seq = s.seq ∧ (s.freeEntry tag).track = s.track
      ∧ (s.freeEntry tag).read = s.read ∧ (s.freeEntry tag).cache = s.cache ∧ (s.freeEntry tag).bed = s.bed
      ∧ (s.freeEntry tag).weigh = s.weigh ∧ (s.freeEntry tag).wrap = s.wrap ∧ (s.freeEntry tag).label = s.label
      ∧ (s.freeEntry tag).view = s.view ∧ (s.freeEntry tag).rel = s.rel
      ∧ (s.freeEntry tag).line.state = s.line.state ∧ (s.freeEntry tag).line.lastSender = s.line.lastSender
      ∧ (s.freeEntry tag).line.lineErrors = s.line.lineErrors ∧ (s.freeEntry tag).line.retry = s.line.retry
      ∧ (s.freeEntry tag).line.collisions = s.line.collisions ∧ (s.freeEntry tag).line.inFlight = s.line.inFlight
      ∧ (s.freeEntry tag).line.trainPos = s.line.trainPos ∧ (s.freeEntry tag).line.activity = s.line.activity
      ∧ (s.freeEntry tag).line.restartSrc = s.line.restartSrc ∧ (s.freeEntry tag).tx.sequence = s.tx.sequence
      ∧ (s.freeEntry tag).tx.report = s.tx.report ∧ (s.freeEntry tag).tx.rejectReserved = s.tx.rejectReserved
      ∧ (s.freeEntry tag).tx.pointer = s.tx.pointer ∧ (s.freeEntry tag).ring = s.ring
      ∧ (s.freeEntry tag).mon = s.mon ∧ (s.freeEntry tag).free = s.free ∧ (s.freeEntry tag).pending = s.pending := by
  unfold State.freeEntry
  split <;> simp

@[simp] theorem State.createLoad_frame (s : State) (m : Manifest) :
    (s.createLoad m).clock = s.clock ∧ (s.createLoad m).image = s.image ∧ (s.createLoad m).inp = s.inp
      ∧ (s.createLoad m).out = s.out ∧ (s.createLoad m).seq = s.seq ∧ (s.createLoad m).track = s.track
      ∧ (s.createLoad m).read = s.read ∧ (s.createLoad m).cache = s.cache ∧ (s.createLoad m).tracker = s.tracker
      ∧ (s.createLoad m).bed = s.bed ∧ (s.createLoad m).weigh = s.weigh ∧ (s.createLoad m).wrap = s.wrap
      ∧ (s.createLoad m).label = s.label ∧ (s.createLoad m).view.skips = s.view.skips ∧ (s.createLoad m).rel = s.rel
      ∧ (s.createLoad m).line = s.line ∧ (s.createLoad m).tx = s.tx ∧ (s.createLoad m).ring = s.ring
      ∧ (s.createLoad m).mon = s.mon ∧ (s.createLoad m).free = s.free ∧ (s.createLoad m).pending = s.pending := by
  simp only [State.createLoad]
  (repeat' split) <;> simp

@[simp] theorem State.countIdentified_frame (s : State) (m : Manifest) :
    (s.countIdentified m).clock = s.clock ∧ (s.countIdentified m).image = s.image
      ∧ (s.countIdentified m).inp = s.inp ∧ (s.countIdentified m).out = s.out ∧ (s.countIdentified m).seq = s.seq
      ∧ (s.countIdentified m).track = s.track ∧ (s.countIdentified m).read = s.read
      ∧ (s.countIdentified m).cache = s.cache ∧ (s.countIdentified m).tracker = s.tracker
      ∧ (s.countIdentified m).bed = s.bed ∧ (s.countIdentified m).weigh = s.weigh
      ∧ (s.countIdentified m).wrap = s.wrap ∧ (s.countIdentified m).label = s.label
      ∧ (s.countIdentified m).view.skips = s.view.skips ∧ (s.countIdentified m).rel = s.rel
      ∧ (s.countIdentified m).line = s.line ∧ (s.countIdentified m).tx = s.tx ∧ (s.countIdentified m).ring = s.ring
      ∧ (s.countIdentified m).mon = s.mon ∧ (s.countIdentified m).free = s.free
      ∧ (s.countIdentified m).pending = s.pending := by
  simp only [State.countIdentified]
  (repeat' split) <;> simp

@[simp] theorem State.countLeft_frame (s : State) (load : BitVec 16) :
    (s.countLeft load).clock = s.clock ∧ (s.countLeft load).image = s.image ∧ (s.countLeft load).inp = s.inp
      ∧ (s.countLeft load).out = s.out ∧ (s.countLeft load).seq = s.seq ∧ (s.countLeft load).track = s.track
      ∧ (s.countLeft load).read = s.read ∧ (s.countLeft load).cache = s.cache
      ∧ (s.countLeft load).tracker = s.tracker ∧ (s.countLeft load).bed = s.bed ∧ (s.countLeft load).weigh = s.weigh
      ∧ (s.countLeft load).wrap = s.wrap ∧ (s.countLeft load).label = s.label
      ∧ (s.countLeft load).view.skips = s.view.skips ∧ (s.countLeft load).rel = s.rel
      ∧ (s.countLeft load).line = s.line ∧ (s.countLeft load).tx = s.tx ∧ (s.countLeft load).ring = s.ring
      ∧ (s.countLeft load).mon = s.mon ∧ (s.countLeft load).free = s.free ∧ (s.countLeft load).pending = s.pending := by
  simp only [State.countLeft]
  (repeat' split) <;> simp

@[simp] theorem State.appendRecord_frame (s : State) (r : DispatchRecord) :
    (s.appendRecord r).clock = s.clock ∧ (s.appendRecord r).image = s.image ∧ (s.appendRecord r).inp = s.inp
      ∧ (s.appendRecord r).out = s.out ∧ (s.appendRecord r).seq = s.seq ∧ (s.appendRecord r).track = s.track
      ∧ (s.appendRecord r).read = s.read ∧ (s.appendRecord r).cache = s.cache
      ∧ (s.appendRecord r).tracker = s.tracker ∧ (s.appendRecord r).bed = s.bed ∧ (s.appendRecord r).weigh = s.weigh
      ∧ (s.appendRecord r).wrap = s.wrap ∧ (s.appendRecord r).label = s.label ∧ (s.appendRecord r).view = s.view
      ∧ (s.appendRecord r).rel = s.rel ∧ (s.appendRecord r).line = s.line ∧ (s.appendRecord r).tx = s.tx
      ∧ (s.appendRecord r).mon = s.mon ∧ (s.appendRecord r).free = s.free ∧ (s.appendRecord r).pending = s.pending := by
  unfold State.appendRecord
  split <;> simp

@[simp] theorem State.enterCut_frame (s : State) :
    (s.enterCut).clock = s.clock ∧ (s.enterCut).image = s.image ∧ (s.enterCut).inp = s.inp
      ∧ (s.enterCut).out = s.out ∧ (s.enterCut).seq = s.seq ∧ (s.enterCut).track = s.track
      ∧ (s.enterCut).read = s.read ∧ (s.enterCut).cache = s.cache ∧ (s.enterCut).tracker = s.tracker
      ∧ (s.enterCut).bed = s.bed ∧ (s.enterCut).weigh = s.weigh ∧ (s.enterCut).wrap.mast = s.wrap.mast
      ∧ (s.enterCut).wrap.homed = s.wrap.homed ∧ (s.enterCut).wrap.conveyor = s.wrap.conveyor
      ∧ (s.enterCut).wrap.angleCapture = s.wrap.angleCapture ∧ (s.enterCut).wrap.angle = s.wrap.angle
      ∧ (s.enterCut).wrap.rev = s.wrap.rev ∧ (s.enterCut).wrap.cls = s.wrap.cls ∧ (s.enterCut).label = s.label
      ∧ (s.enterCut).view = s.view ∧ (s.enterCut).rel = s.rel ∧ (s.enterCut).line = s.line ∧ (s.enterCut).tx = s.tx
      ∧ (s.enterCut).ring = s.ring ∧ (s.enterCut).mon = s.mon ∧ (s.enterCut).free = s.free
      ∧ (s.enterCut).pending = s.pending := by simp [State.enterCut]

@[simp] theorem State.enterPark_frame (s : State) :
    (s.enterPark).clock = s.clock ∧ (s.enterPark).image = s.image ∧ (s.enterPark).inp = s.inp
      ∧ (s.enterPark).out = s.out ∧ (s.enterPark).seq = s.seq ∧ (s.enterPark).track = s.track
      ∧ (s.enterPark).read = s.read ∧ (s.enterPark).cache = s.cache ∧ (s.enterPark).tracker = s.tracker
      ∧ (s.enterPark).bed = s.bed ∧ (s.enterPark).weigh = s.weigh ∧ (s.enterPark).label = s.label
      ∧ (s.enterPark).view = s.view ∧ (s.enterPark).rel = s.rel ∧ (s.enterPark).line = s.line
      ∧ (s.enterPark).tx = s.tx ∧ (s.enterPark).ring = s.ring ∧ (s.enterPark).mon = s.mon
      ∧ (s.enterPark).free = s.free ∧ (s.enterPark).pending = s.pending := by
  simp only [State.enterPark]
  (repeat' split) <;> simp

@[simp] theorem State.enterDescend_frame (s : State) :
    (s.enterDescend).clock = s.clock ∧ (s.enterDescend).image = s.image ∧ (s.enterDescend).inp = s.inp
      ∧ (s.enterDescend).out = s.out ∧ (s.enterDescend).seq = s.seq ∧ (s.enterDescend).track = s.track
      ∧ (s.enterDescend).read = s.read ∧ (s.enterDescend).cache = s.cache ∧ (s.enterDescend).tracker = s.tracker
      ∧ (s.enterDescend).bed = s.bed ∧ (s.enterDescend).weigh = s.weigh ∧ (s.enterDescend).label = s.label
      ∧ (s.enterDescend).view = s.view ∧ (s.enterDescend).rel = s.rel ∧ (s.enterDescend).line = s.line
      ∧ (s.enterDescend).tx = s.tx ∧ (s.enterDescend).ring = s.ring ∧ (s.enterDescend).mon = s.mon
      ∧ (s.enterDescend).free = s.free ∧ (s.enterDescend).pending = s.pending := by
  unfold State.enterDescend
  split <;> simp

@[simp] theorem State.endTop_frame (s : State) :
    (s.endTop).clock = s.clock ∧ (s.endTop).image = s.image ∧ (s.endTop).inp = s.inp ∧ (s.endTop).out = s.out
      ∧ (s.endTop).seq = s.seq ∧ (s.endTop).track = s.track ∧ (s.endTop).read = s.read ∧ (s.endTop).cache = s.cache
      ∧ (s.endTop).tracker = s.tracker ∧ (s.endTop).bed = s.bed ∧ (s.endTop).weigh = s.weigh
      ∧ (s.endTop).label = s.label ∧ (s.endTop).view = s.view ∧ (s.endTop).rel = s.rel ∧ (s.endTop).line = s.line
      ∧ (s.endTop).tx = s.tx ∧ (s.endTop).ring = s.ring ∧ (s.endTop).mon = s.mon ∧ (s.endTop).free = s.free
      ∧ (s.endTop).pending = s.pending := by
  unfold State.endTop
  split <;> simp

@[simp] theorem State.judgeTop_frame (s : State) :
    (s.judgeTop).clock = s.clock ∧ (s.judgeTop).image = s.image ∧ (s.judgeTop).inp = s.inp
      ∧ (s.judgeTop).out = s.out ∧ (s.judgeTop).seq = s.seq ∧ (s.judgeTop).track = s.track
      ∧ (s.judgeTop).read = s.read ∧ (s.judgeTop).cache = s.cache ∧ (s.judgeTop).tracker = s.tracker
      ∧ (s.judgeTop).bed = s.bed ∧ (s.judgeTop).weigh = s.weigh ∧ (s.judgeTop).label = s.label
      ∧ (s.judgeTop).view = s.view ∧ (s.judgeTop).rel = s.rel ∧ (s.judgeTop).line = s.line ∧ (s.judgeTop).tx = s.tx
      ∧ (s.judgeTop).ring = s.ring ∧ (s.judgeTop).mon = s.mon ∧ (s.judgeTop).free = s.free
      ∧ (s.judgeTop).pending = s.pending := by
  unfold State.judgeTop
  split <;> simp

@[simp] theorem State.endRise_frame (s : State) :
    (s.endRise).clock = s.clock ∧ (s.endRise).image = s.image ∧ (s.endRise).inp = s.inp ∧ (s.endRise).out = s.out
      ∧ (s.endRise).seq = s.seq ∧ (s.endRise).track.exitSlot = s.track.exitSlot
      ∧ (s.endRise).track.tagCounter = s.track.tagCounter ∧ (s.endRise).track.issued = s.track.issued
      ∧ (s.endRise).read = s.read ∧ (s.endRise).cache = s.cache ∧ (s.endRise).tracker = s.tracker
      ∧ (s.endRise).bed = s.bed ∧ (s.endRise).weigh = s.weigh ∧ (s.endRise).label = s.label
      ∧ (s.endRise).view = s.view ∧ (s.endRise).rel = s.rel ∧ (s.endRise).line = s.line ∧ (s.endRise).tx = s.tx
      ∧ (s.endRise).ring = s.ring ∧ (s.endRise).mon = s.mon ∧ (s.endRise).free = s.free
      ∧ (s.endRise).pending = s.pending := by simp [State.endRise]

@[simp] theorem State.enterRise_frame (s : State) :
    (s.enterRise).clock = s.clock ∧ (s.enterRise).image = s.image ∧ (s.enterRise).inp = s.inp
      ∧ (s.enterRise).out = s.out ∧ (s.enterRise).seq = s.seq ∧ (s.enterRise).track.exitSlot = s.track.exitSlot
      ∧ (s.enterRise).track.tagCounter = s.track.tagCounter ∧ (s.enterRise).track.issued = s.track.issued
      ∧ (s.enterRise).read = s.read ∧ (s.enterRise).cache = s.cache ∧ (s.enterRise).tracker = s.tracker
      ∧ (s.enterRise).bed = s.bed ∧ (s.enterRise).weigh = s.weigh ∧ (s.enterRise).label = s.label
      ∧ (s.enterRise).view = s.view ∧ (s.enterRise).rel = s.rel ∧ (s.enterRise).line = s.line
      ∧ (s.enterRise).tx = s.tx ∧ (s.enterRise).ring = s.ring ∧ (s.enterRise).mon = s.mon
      ∧ (s.enterRise).free = s.free ∧ (s.enterRise).pending = s.pending := by
  simp only [State.enterRise]
  (repeat' split) <;> simp

@[simp] theorem State.judgeBottom_frame (s : State) :
    (s.judgeBottom).clock = s.clock ∧ (s.judgeBottom).image = s.image ∧ (s.judgeBottom).inp = s.inp
      ∧ (s.judgeBottom).out = s.out ∧ (s.judgeBottom).seq = s.seq
      ∧ (s.judgeBottom).track.exitSlot = s.track.exitSlot ∧ (s.judgeBottom).track.tagCounter = s.track.tagCounter
      ∧ (s.judgeBottom).track.issued = s.track.issued ∧ (s.judgeBottom).read = s.read
      ∧ (s.judgeBottom).cache = s.cache ∧ (s.judgeBottom).tracker = s.tracker ∧ (s.judgeBottom).bed = s.bed
      ∧ (s.judgeBottom).weigh = s.weigh ∧ (s.judgeBottom).label = s.label ∧ (s.judgeBottom).view = s.view
      ∧ (s.judgeBottom).rel = s.rel ∧ (s.judgeBottom).line = s.line ∧ (s.judgeBottom).tx = s.tx
      ∧ (s.judgeBottom).ring = s.ring ∧ (s.judgeBottom).mon = s.mon ∧ (s.judgeBottom).free = s.free
      ∧ (s.judgeBottom).pending = s.pending := by
  unfold State.judgeBottom
  split <;> simp

@[simp] theorem State.enterBottom_frame (s : State) :
    (s.enterBottom).clock = s.clock ∧ (s.enterBottom).image = s.image ∧ (s.enterBottom).inp = s.inp
      ∧ (s.enterBottom).out = s.out ∧ (s.enterBottom).seq = s.seq
      ∧ (s.enterBottom).track.exitSlot = s.track.exitSlot ∧ (s.enterBottom).track.tagCounter = s.track.tagCounter
      ∧ (s.enterBottom).track.issued = s.track.issued ∧ (s.enterBottom).read = s.read
      ∧ (s.enterBottom).cache = s.cache ∧ (s.enterBottom).tracker = s.tracker ∧ (s.enterBottom).bed = s.bed
      ∧ (s.enterBottom).weigh = s.weigh ∧ (s.enterBottom).label = s.label ∧ (s.enterBottom).view = s.view
      ∧ (s.enterBottom).rel = s.rel ∧ (s.enterBottom).line = s.line ∧ (s.enterBottom).tx = s.tx
      ∧ (s.enterBottom).ring = s.ring ∧ (s.enterBottom).mon = s.mon ∧ (s.enterBottom).free = s.free
      ∧ (s.enterBottom).pending = s.pending := by simp [State.enterBottom]

@[simp] theorem State.enterStart_frame (s : State) (cls : Fin 4) :
    (s.enterStart cls).clock = s.clock ∧ (s.enterStart cls).image = s.image ∧ (s.enterStart cls).inp = s.inp
      ∧ (s.enterStart cls).out = s.out ∧ (s.enterStart cls).seq = s.seq
      ∧ (s.enterStart cls).track.exitSlot = s.track.exitSlot
      ∧ (s.enterStart cls).track.tagCounter = s.track.tagCounter ∧ (s.enterStart cls).track.issued = s.track.issued
      ∧ (s.enterStart cls).read = s.read ∧ (s.enterStart cls).cache = s.cache
      ∧ (s.enterStart cls).tracker = s.tracker ∧ (s.enterStart cls).bed = s.bed ∧ (s.enterStart cls).weigh = s.weigh
      ∧ (s.enterStart cls).label = s.label ∧ (s.enterStart cls).view = s.view ∧ (s.enterStart cls).rel = s.rel
      ∧ (s.enterStart cls).line = s.line ∧ (s.enterStart cls).tx = s.tx ∧ (s.enterStart cls).ring = s.ring
      ∧ (s.enterStart cls).mon = s.mon ∧ (s.enterStart cls).free = s.free ∧ (s.enterStart cls).pending = s.pending := by
  simp only [State.enterStart]
  (repeat' split) <;> simp

@[simp] theorem State.judgeMast_frame (s : State) :
    (s.judgeMast).clock = s.clock ∧ (s.judgeMast).image = s.image ∧ (s.judgeMast).inp = s.inp
      ∧ (s.judgeMast).out = s.out ∧ (s.judgeMast).seq = s.seq ∧ (s.judgeMast).track.exitSlot = s.track.exitSlot
      ∧ (s.judgeMast).track.tagCounter = s.track.tagCounter ∧ (s.judgeMast).track.issued = s.track.issued
      ∧ (s.judgeMast).read = s.read ∧ (s.judgeMast).cache = s.cache ∧ (s.judgeMast).tracker = s.tracker
      ∧ (s.judgeMast).bed = s.bed ∧ (s.judgeMast).weigh = s.weigh ∧ (s.judgeMast).label = s.label
      ∧ (s.judgeMast).view = s.view ∧ (s.judgeMast).rel = s.rel ∧ (s.judgeMast).line = s.line
      ∧ (s.judgeMast).tx = s.tx ∧ (s.judgeMast).ring = s.ring ∧ (s.judgeMast).mon = s.mon
      ∧ (s.judgeMast).free = s.free ∧ (s.judgeMast).pending = s.pending := by
  simp only [State.judgeMast]
  (repeat' split) <;> simp

@[simp] theorem State.judgeAngle_frame (s : State) :
    (s.judgeAngle).clock = s.clock ∧ (s.judgeAngle).image = s.image ∧ (s.judgeAngle).inp = s.inp
      ∧ (s.judgeAngle).out = s.out ∧ (s.judgeAngle).seq = s.seq ∧ (s.judgeAngle).track = s.track
      ∧ (s.judgeAngle).read = s.read ∧ (s.judgeAngle).cache = s.cache ∧ (s.judgeAngle).tracker = s.tracker
      ∧ (s.judgeAngle).bed = s.bed ∧ (s.judgeAngle).weigh = s.weigh ∧ (s.judgeAngle).wrap.mast = s.wrap.mast
      ∧ (s.judgeAngle).wrap.homed = s.wrap.homed ∧ (s.judgeAngle).wrap.conveyor = s.wrap.conveyor
      ∧ (s.judgeAngle).wrap.angleCapture = s.wrap.angleCapture ∧ (s.judgeAngle).wrap.angle = s.wrap.angle
      ∧ (s.judgeAngle).wrap.rev = s.wrap.rev ∧ (s.judgeAngle).wrap.cls = s.wrap.cls ∧ (s.judgeAngle).label = s.label
      ∧ (s.judgeAngle).view = s.view ∧ (s.judgeAngle).rel = s.rel ∧ (s.judgeAngle).line = s.line
      ∧ (s.judgeAngle).tx = s.tx ∧ (s.judgeAngle).ring = s.ring ∧ (s.judgeAngle).mon = s.mon
      ∧ (s.judgeAngle).free = s.free ∧ (s.judgeAngle).pending = s.pending := by
  simp only [State.judgeAngle]
  (repeat' split) <;> simp

@[simp] theorem State.stopWrap_frame (s : State) :
    (s.stopWrap).clock = s.clock ∧ (s.stopWrap).image = s.image ∧ (s.stopWrap).inp = s.inp
      ∧ (s.stopWrap).out = s.out ∧ (s.stopWrap).seq = s.seq ∧ (s.stopWrap).track.exitSlot = s.track.exitSlot
      ∧ (s.stopWrap).track.tagCounter = s.track.tagCounter ∧ (s.stopWrap).track.issued = s.track.issued
      ∧ (s.stopWrap).read = s.read ∧ (s.stopWrap).cache = s.cache ∧ (s.stopWrap).tracker = s.tracker
      ∧ (s.stopWrap).bed = s.bed ∧ (s.stopWrap).weigh = s.weigh ∧ (s.stopWrap).label = s.label
      ∧ (s.stopWrap).view = s.view ∧ (s.stopWrap).rel = s.rel ∧ (s.stopWrap).line = s.line ∧ (s.stopWrap).tx = s.tx
      ∧ (s.stopWrap).ring = s.ring ∧ (s.stopWrap).mon = s.mon ∧ (s.stopWrap).free = s.free
      ∧ (s.stopWrap).pending = s.pending := by
  simp only [State.stopWrap]
  (repeat' split) <;> simp

@[simp] theorem State.homeFound_frame (s : State) :
    (s.homeFound).clock = s.clock ∧ (s.homeFound).image = s.image ∧ (s.homeFound).inp = s.inp
      ∧ (s.homeFound).out = s.out ∧ (s.homeFound).seq = s.seq ∧ (s.homeFound).track = s.track
      ∧ (s.homeFound).read = s.read ∧ (s.homeFound).cache = s.cache ∧ (s.homeFound).tracker = s.tracker
      ∧ (s.homeFound).bed = s.bed ∧ (s.homeFound).weigh = s.weigh ∧ (s.homeFound).label = s.label
      ∧ (s.homeFound).view = s.view ∧ (s.homeFound).rel = s.rel ∧ (s.homeFound).line = s.line
      ∧ (s.homeFound).tx = s.tx ∧ (s.homeFound).ring = s.ring ∧ (s.homeFound).mon = s.mon
      ∧ (s.homeFound).free = s.free ∧ (s.homeFound).pending = s.pending := by simp [State.homeFound]

@[simp] theorem State.enterHoming_frame (s : State) :
    (s.enterHoming).clock = s.clock ∧ (s.enterHoming).image = s.image ∧ (s.enterHoming).inp = s.inp
      ∧ (s.enterHoming).out = s.out ∧ (s.enterHoming).seq = s.seq ∧ (s.enterHoming).track = s.track
      ∧ (s.enterHoming).read = s.read ∧ (s.enterHoming).cache = s.cache ∧ (s.enterHoming).tracker = s.tracker
      ∧ (s.enterHoming).bed = s.bed ∧ (s.enterHoming).weigh = s.weigh ∧ (s.enterHoming).label = s.label
      ∧ (s.enterHoming).view = s.view ∧ (s.enterHoming).rel = s.rel ∧ (s.enterHoming).line = s.line
      ∧ (s.enterHoming).tx = s.tx ∧ (s.enterHoming).ring = s.ring ∧ (s.enterHoming).mon = s.mon
      ∧ (s.enterHoming).free = s.free ∧ (s.enterHoming).pending = s.pending := by
  simp only [State.enterHoming]
  (repeat' split) <;> simp

@[simp] theorem State.compose_frame (s : State) (j : Job) (m : Manifest) (p : PalletRecord) :
    (s.compose j m p).clock = s.clock ∧ (s.compose j m p).image = s.image ∧ (s.compose j m p).inp = s.inp
      ∧ (s.compose j m p).out = s.out ∧ (s.compose j m p).seq = s.seq ∧ (s.compose j m p).track = s.track
      ∧ (s.compose j m p).read = s.read ∧ (s.compose j m p).cache = s.cache ∧ (s.compose j m p).tracker = s.tracker
      ∧ (s.compose j m p).bed = s.bed ∧ (s.compose j m p).weigh = s.weigh ∧ (s.compose j m p).wrap = s.wrap
      ∧ (s.compose j m p).label.labelJob = s.label.labelJob ∧ (s.compose j m p).label.cmp = s.label.cmp
      ∧ (s.compose j m p).view = s.view ∧ (s.compose j m p).rel = s.rel ∧ (s.compose j m p).line = s.line
      ∧ (s.compose j m p).tx = s.tx ∧ (s.compose j m p).ring = s.ring ∧ (s.compose j m p).mon = s.mon
      ∧ (s.compose j m p).free = s.free ∧ (s.compose j m p).pending = s.pending := by simp [State.compose]

@[simp] theorem State.failJob_frame (s : State) (left right : Bool) :
    (s.failJob left right).clock = s.clock ∧ (s.failJob left right).image = s.image
      ∧ (s.failJob left right).inp = s.inp ∧ (s.failJob left right).out = s.out ∧ (s.failJob left right).seq = s.seq
      ∧ (s.failJob left right).track.exitSlot = s.track.exitSlot
      ∧ (s.failJob left right).track.tagCounter = s.track.tagCounter
      ∧ (s.failJob left right).track.issued = s.track.issued ∧ (s.failJob left right).read = s.read
      ∧ (s.failJob left right).cache = s.cache ∧ (s.failJob left right).tracker = s.tracker
      ∧ (s.failJob left right).bed = s.bed ∧ (s.failJob left right).weigh = s.weigh
      ∧ (s.failJob left right).wrap = s.wrap ∧ (s.failJob left right).label.labelJob = s.label.labelJob
      ∧ (s.failJob left right).label.cmp = s.label.cmp ∧ (s.failJob left right).view = s.view
      ∧ (s.failJob left right).rel = s.rel ∧ (s.failJob left right).line = s.line ∧ (s.failJob left right).tx = s.tx
      ∧ (s.failJob left right).ring = s.ring ∧ (s.failJob left right).mon = s.mon
      ∧ (s.failJob left right).free = s.free ∧ (s.failJob left right).pending = s.pending := by simp [State.failJob]

@[simp] theorem State.giveUpJob_frame (s : State) (j : Job) :
    (s.giveUpJob j).clock = s.clock ∧ (s.giveUpJob j).image = s.image ∧ (s.giveUpJob j).inp = s.inp
      ∧ (s.giveUpJob j).out = s.out ∧ (s.giveUpJob j).seq = s.seq
      ∧ (s.giveUpJob j).track.exitSlot = s.track.exitSlot ∧ (s.giveUpJob j).track.tagCounter = s.track.tagCounter
      ∧ (s.giveUpJob j).track.issued = s.track.issued ∧ (s.giveUpJob j).read = s.read
      ∧ (s.giveUpJob j).cache = s.cache ∧ (s.giveUpJob j).tracker = s.tracker ∧ (s.giveUpJob j).bed = s.bed
      ∧ (s.giveUpJob j).weigh = s.weigh ∧ (s.giveUpJob j).wrap = s.wrap
      ∧ (s.giveUpJob j).label.labelJob = s.label.labelJob ∧ (s.giveUpJob j).view = s.view
      ∧ (s.giveUpJob j).rel = s.rel ∧ (s.giveUpJob j).line = s.line ∧ (s.giveUpJob j).tx = s.tx
      ∧ (s.giveUpJob j).ring = s.ring ∧ (s.giveUpJob j).mon = s.mon ∧ (s.giveUpJob j).free = s.free
      ∧ (s.giveUpJob j).pending = s.pending := by
  unfold State.giveUpJob
  split <;> simp

@[simp] theorem State.fire_frame (s : State) (j : Job) :
    (s.fire j).clock = s.clock ∧ (s.fire j).image = s.image ∧ (s.fire j).inp = s.inp ∧ (s.fire j).out = s.out
      ∧ (s.fire j).seq = s.seq ∧ (s.fire j).track = s.track ∧ (s.fire j).read = s.read ∧ (s.fire j).cache = s.cache
      ∧ (s.fire j).tracker = s.tracker ∧ (s.fire j).bed = s.bed ∧ (s.fire j).weigh = s.weigh
      ∧ (s.fire j).wrap = s.wrap ∧ (s.fire j).label.labelJob = s.label.labelJob ∧ (s.fire j).label.txL = s.label.txL
      ∧ (s.fire j).label.txR = s.label.txR ∧ (s.fire j).label.cmp = s.label.cmp ∧ (s.fire j).view = s.view
      ∧ (s.fire j).rel = s.rel ∧ (s.fire j).line = s.line ∧ (s.fire j).tx = s.tx ∧ (s.fire j).ring = s.ring
      ∧ (s.fire j).mon = s.mon ∧ (s.fire j).free = s.free ∧ (s.fire j).pending = s.pending := by simp [State.fire]

@[simp] theorem State.judgeConveyor_frame (s : State) :
    (s.judgeConveyor).clock = s.clock ∧ (s.judgeConveyor).image = s.image ∧ (s.judgeConveyor).inp = s.inp
      ∧ (s.judgeConveyor).out = s.out ∧ (s.judgeConveyor).seq = s.seq
      ∧ (s.judgeConveyor).track.exitSlot = s.track.exitSlot
      ∧ (s.judgeConveyor).track.tagCounter = s.track.tagCounter ∧ (s.judgeConveyor).track.issued = s.track.issued
      ∧ (s.judgeConveyor).read = s.read ∧ (s.judgeConveyor).cache = s.cache ∧ (s.judgeConveyor).tracker = s.tracker
      ∧ (s.judgeConveyor).bed = s.bed ∧ (s.judgeConveyor).weigh = s.weigh ∧ (s.judgeConveyor).wrap = s.wrap
      ∧ (s.judgeConveyor).label.labelJob = s.label.labelJob ∧ (s.judgeConveyor).view = s.view
      ∧ (s.judgeConveyor).rel = s.rel ∧ (s.judgeConveyor).line = s.line ∧ (s.judgeConveyor).tx = s.tx
      ∧ (s.judgeConveyor).ring = s.ring ∧ (s.judgeConveyor).mon = s.mon ∧ (s.judgeConveyor).free = s.free
      ∧ (s.judgeConveyor).pending = s.pending := by
  simp only [State.judgeConveyor]
  (repeat' split) <;> simp

@[simp] theorem State.updTagged_frame (s : State) (tag : BitVec 8) (f : PalletRecord → PalletRecord) :
    (s.updTagged tag f).clock = s.clock ∧ (s.updTagged tag f).image = s.image ∧ (s.updTagged tag f).inp = s.inp
      ∧ (s.updTagged tag f).out = s.out ∧ (s.updTagged tag f).seq = s.seq
      ∧ (s.updTagged tag f).track.exitSlot = s.track.exitSlot
      ∧ (s.updTagged tag f).track.tagCounter = s.track.tagCounter
      ∧ (s.updTagged tag f).track.issued = s.track.issued ∧ (s.updTagged tag f).read = s.read
      ∧ (s.updTagged tag f).cache = s.cache ∧ (s.updTagged tag f).tracker = s.tracker
      ∧ (s.updTagged tag f).bed = s.bed ∧ (s.updTagged tag f).weigh = s.weigh ∧ (s.updTagged tag f).wrap = s.wrap
      ∧ (s.updTagged tag f).label = s.label ∧ (s.updTagged tag f).view = s.view ∧ (s.updTagged tag f).rel = s.rel
      ∧ (s.updTagged tag f).line = s.line ∧ (s.updTagged tag f).tx = s.tx ∧ (s.updTagged tag f).ring = s.ring
      ∧ (s.updTagged tag f).mon = s.mon ∧ (s.updTagged tag f).free = s.free
      ∧ (s.updTagged tag f).pending = s.pending := by
  unfold State.updTagged
  split <;> simp

@[simp] theorem State.dropJobs_frame (s : State) (tag : BitVec 8) :
    (s.dropJobs tag).clock = s.clock ∧ (s.dropJobs tag).image = s.image ∧ (s.dropJobs tag).inp = s.inp
      ∧ (s.dropJobs tag).out = s.out ∧ (s.dropJobs tag).seq = s.seq ∧ (s.dropJobs tag).track = s.track
      ∧ (s.dropJobs tag).read = s.read ∧ (s.dropJobs tag).cache = s.cache ∧ (s.dropJobs tag).tracker = s.tracker
      ∧ (s.dropJobs tag).bed = s.bed ∧ (s.dropJobs tag).weigh = s.weigh ∧ (s.dropJobs tag).wrap = s.wrap
      ∧ (s.dropJobs tag).view = s.view ∧ (s.dropJobs tag).rel = s.rel ∧ (s.dropJobs tag).line = s.line
      ∧ (s.dropJobs tag).tx = s.tx ∧ (s.dropJobs tag).ring = s.ring ∧ (s.dropJobs tag).mon = s.mon
      ∧ (s.dropJobs tag).free = s.free ∧ (s.dropJobs tag).pending = s.pending := by
  simp only [State.dropJobs]
  (repeat' split) <;> simp

@[simp] theorem State.faultLabels_frame (s : State) :
    (s.faultLabels).clock = s.clock ∧ (s.faultLabels).image = s.image ∧ (s.faultLabels).inp = s.inp
      ∧ (s.faultLabels).out = s.out ∧ (s.faultLabels).seq = s.seq ∧ (s.faultLabels).track = s.track
      ∧ (s.faultLabels).read = s.read ∧ (s.faultLabels).cache = s.cache ∧ (s.faultLabels).tracker = s.tracker
      ∧ (s.faultLabels).bed = s.bed ∧ (s.faultLabels).weigh = s.weigh ∧ (s.faultLabels).wrap = s.wrap
      ∧ (s.faultLabels).label.txL = s.label.txL ∧ (s.faultLabels).label.txR = s.label.txR
      ∧ (s.faultLabels).view = s.view ∧ (s.faultLabels).rel = s.rel ∧ (s.faultLabels).line = s.line
      ∧ (s.faultLabels).tx = s.tx ∧ (s.faultLabels).ring = s.ring ∧ (s.faultLabels).mon = s.mon
      ∧ (s.faultLabels).free = s.free ∧ (s.faultLabels).pending = s.pending := by simp [State.faultLabels]

@[simp] theorem State.labelArrival_frame (s : State) :
    (s.labelArrival).clock = s.clock ∧ (s.labelArrival).image = s.image ∧ (s.labelArrival).inp = s.inp
      ∧ (s.labelArrival).out = s.out ∧ (s.labelArrival).seq = s.seq
      ∧ (s.labelArrival).track.exitSlot = s.track.exitSlot ∧ (s.labelArrival).track.tagCounter = s.track.tagCounter
      ∧ (s.labelArrival).track.issued = s.track.issued ∧ (s.labelArrival).read = s.read
      ∧ (s.labelArrival).cache = s.cache ∧ (s.labelArrival).tracker = s.tracker ∧ (s.labelArrival).bed = s.bed
      ∧ (s.labelArrival).weigh = s.weigh ∧ (s.labelArrival).wrap = s.wrap ∧ (s.labelArrival).view = s.view
      ∧ (s.labelArrival).rel = s.rel ∧ (s.labelArrival).line = s.line ∧ (s.labelArrival).tx = s.tx
      ∧ (s.labelArrival).ring = s.ring ∧ (s.labelArrival).mon = s.mon ∧ (s.labelArrival).free = s.free
      ∧ (s.labelArrival).pending = s.pending := by
  simp only [State.labelArrival]
  (repeat' split) <;> simp

@[simp] theorem State.dropClaim_frame (s : State) :
    (s.dropClaim).clock = s.clock ∧ (s.dropClaim).image = s.image ∧ (s.dropClaim).inp = s.inp
      ∧ (s.dropClaim).out = s.out ∧ (s.dropClaim).seq = s.seq ∧ (s.dropClaim).track = s.track
      ∧ (s.dropClaim).read = s.read ∧ (s.dropClaim).cache = s.cache ∧ (s.dropClaim).tracker = s.tracker
      ∧ (s.dropClaim).bed = s.bed ∧ (s.dropClaim).weigh = s.weigh ∧ (s.dropClaim).wrap = s.wrap
      ∧ (s.dropClaim).label = s.label ∧ (s.dropClaim).view = s.view ∧ (s.dropClaim).rel.force = s.rel.force
      ∧ (s.dropClaim).rel.stall = s.rel.stall ∧ (s.dropClaim).line.state = s.line.state
      ∧ (s.dropClaim).line.lastSender = s.line.lastSender ∧ (s.dropClaim).line.lineErrors = s.line.lineErrors
      ∧ (s.dropClaim).line.retry = s.line.retry ∧ (s.dropClaim).line.collisions = s.line.collisions
      ∧ (s.dropClaim).line.inFlight = s.line.inFlight ∧ (s.dropClaim).line.trainPos = s.line.trainPos
      ∧ (s.dropClaim).line.activity = s.line.activity ∧ (s.dropClaim).line.restartSrc = s.line.restartSrc
      ∧ (s.dropClaim).tx.request = s.tx.request ∧ (s.dropClaim).tx.report = s.tx.report
      ∧ (s.dropClaim).tx.rejectReserved = s.tx.rejectReserved ∧ (s.dropClaim).tx.pointer = s.tx.pointer
      ∧ (s.dropClaim).ring = s.ring ∧ (s.dropClaim).mon = s.mon ∧ (s.dropClaim).free = s.free
      ∧ (s.dropClaim).pending = s.pending := by
  unfold State.dropClaim
  split <;> simp

@[simp] theorem State.unqueueClaim_frame (s : State) :
    (s.unqueueClaim).clock = s.clock ∧ (s.unqueueClaim).image = s.image ∧ (s.unqueueClaim).inp = s.inp
      ∧ (s.unqueueClaim).out = s.out ∧ (s.unqueueClaim).seq = s.seq
      ∧ (s.unqueueClaim).track.exitSlot = s.track.exitSlot ∧ (s.unqueueClaim).track.tagCounter = s.track.tagCounter
      ∧ (s.unqueueClaim).track.issued = s.track.issued ∧ (s.unqueueClaim).read = s.read
      ∧ (s.unqueueClaim).cache = s.cache ∧ (s.unqueueClaim).tracker = s.tracker ∧ (s.unqueueClaim).bed = s.bed
      ∧ (s.unqueueClaim).weigh = s.weigh ∧ (s.unqueueClaim).wrap = s.wrap ∧ (s.unqueueClaim).label = s.label
      ∧ (s.unqueueClaim).view = s.view ∧ (s.unqueueClaim).rel.force = s.rel.force
      ∧ (s.unqueueClaim).rel.stall = s.rel.stall ∧ (s.unqueueClaim).line.state = s.line.state
      ∧ (s.unqueueClaim).line.lastSender = s.line.lastSender ∧ (s.unqueueClaim).line.lineErrors = s.line.lineErrors
      ∧ (s.unqueueClaim).line.retry = s.line.retry ∧ (s.unqueueClaim).line.collisions = s.line.collisions
      ∧ (s.unqueueClaim).line.inFlight = s.line.inFlight ∧ (s.unqueueClaim).line.trainPos = s.line.trainPos
      ∧ (s.unqueueClaim).line.activity = s.line.activity ∧ (s.unqueueClaim).line.restartSrc = s.line.restartSrc
      ∧ (s.unqueueClaim).tx.request = s.tx.request ∧ (s.unqueueClaim).tx.report = s.tx.report
      ∧ (s.unqueueClaim).tx.rejectReserved = s.tx.rejectReserved ∧ (s.unqueueClaim).tx.pointer = s.tx.pointer
      ∧ (s.unqueueClaim).ring = s.ring ∧ (s.unqueueClaim).mon = s.mon ∧ (s.unqueueClaim).free = s.free
      ∧ (s.unqueueClaim).pending = s.pending := by
  unfold State.unqueueClaim
  split <;> simp

@[simp] theorem State.abandonWon_frame (s : State) :
    (s.abandonWon).clock = s.clock ∧ (s.abandonWon).image = s.image ∧ (s.abandonWon).inp = s.inp
      ∧ (s.abandonWon).out = s.out ∧ (s.abandonWon).seq = s.seq ∧ (s.abandonWon).track.exitSlot = s.track.exitSlot
      ∧ (s.abandonWon).track.tagCounter = s.track.tagCounter ∧ (s.abandonWon).track.issued = s.track.issued
      ∧ (s.abandonWon).read = s.read ∧ (s.abandonWon).cache = s.cache ∧ (s.abandonWon).tracker = s.tracker
      ∧ (s.abandonWon).bed = s.bed ∧ (s.abandonWon).weigh = s.weigh ∧ (s.abandonWon).wrap = s.wrap
      ∧ (s.abandonWon).label = s.label ∧ (s.abandonWon).view = s.view ∧ (s.abandonWon).rel.force = s.rel.force
      ∧ (s.abandonWon).rel.stall = s.rel.stall ∧ (s.abandonWon).line = s.line
      ∧ (s.abandonWon).tx.request = s.tx.request ∧ (s.abandonWon).tx.report = s.tx.report
      ∧ (s.abandonWon).tx.rejectReserved = s.tx.rejectReserved ∧ (s.abandonWon).tx.pointer = s.tx.pointer
      ∧ (s.abandonWon).ring = s.ring ∧ (s.abandonWon).mon = s.mon ∧ (s.abandonWon).free = s.free
      ∧ (s.abandonWon).pending = s.pending := by
  simp only [State.abandonWon]
  (repeat' split) <;> simp

@[simp] theorem State.leaveRelease_frame (s : State) :
    (s.leaveRelease).clock = s.clock ∧ (s.leaveRelease).image = s.image ∧ (s.leaveRelease).inp = s.inp
      ∧ (s.leaveRelease).out = s.out ∧ (s.leaveRelease).seq = s.seq
      ∧ (s.leaveRelease).track.exitSlot = s.track.exitSlot ∧ (s.leaveRelease).track.tagCounter = s.track.tagCounter
      ∧ (s.leaveRelease).track.issued = s.track.issued ∧ (s.leaveRelease).read = s.read
      ∧ (s.leaveRelease).cache = s.cache ∧ (s.leaveRelease).tracker = s.tracker ∧ (s.leaveRelease).bed = s.bed
      ∧ (s.leaveRelease).weigh = s.weigh ∧ (s.leaveRelease).wrap = s.wrap ∧ (s.leaveRelease).label = s.label
      ∧ (s.leaveRelease).view = s.view ∧ (s.leaveRelease).rel.stall = s.rel.stall
      ∧ (s.leaveRelease).line.state = s.line.state ∧ (s.leaveRelease).line.lastSender = s.line.lastSender
      ∧ (s.leaveRelease).line.lineErrors = s.line.lineErrors ∧ (s.leaveRelease).line.retry = s.line.retry
      ∧ (s.leaveRelease).line.collisions = s.line.collisions ∧ (s.leaveRelease).line.inFlight = s.line.inFlight
      ∧ (s.leaveRelease).line.trainPos = s.line.trainPos ∧ (s.leaveRelease).line.activity = s.line.activity
      ∧ (s.leaveRelease).line.restartSrc = s.line.restartSrc ∧ (s.leaveRelease).tx.request = s.tx.request
      ∧ (s.leaveRelease).tx.report = s.tx.report ∧ (s.leaveRelease).tx.rejectReserved = s.tx.rejectReserved
      ∧ (s.leaveRelease).tx.pointer = s.tx.pointer ∧ (s.leaveRelease).ring = s.ring ∧ (s.leaveRelease).mon = s.mon
      ∧ (s.leaveRelease).free = s.free ∧ (s.leaveRelease).pending = s.pending := by simp [State.leaveRelease]

@[simp] theorem State.abandonMotions_frame (s : State) :
    (s.abandonMotions).clock = s.clock ∧ (s.abandonMotions).image = s.image ∧ (s.abandonMotions).inp = s.inp
      ∧ (s.abandonMotions).out = s.out ∧ (s.abandonMotions).seq.zones = s.seq.zones
      ∧ (s.abandonMotions).track = s.track ∧ (s.abandonMotions).read = s.read ∧ (s.abandonMotions).cache = s.cache
      ∧ (s.abandonMotions).tracker = s.tracker ∧ (s.abandonMotions).bed = s.bed ∧ (s.abandonMotions).weigh = s.weigh
      ∧ (s.abandonMotions).wrap = s.wrap ∧ (s.abandonMotions).label = s.label ∧ (s.abandonMotions).view = s.view
      ∧ (s.abandonMotions).rel = s.rel ∧ (s.abandonMotions).line = s.line ∧ (s.abandonMotions).tx = s.tx
      ∧ (s.abandonMotions).ring = s.ring ∧ (s.abandonMotions).mon = s.mon ∧ (s.abandonMotions).free = s.free
      ∧ (s.abandonMotions).pending = s.pending := by simp [State.abandonMotions]

@[simp] theorem State.enterFault_frame (s : State) :
    (s.enterFault).clock = s.clock ∧ (s.enterFault).image = s.image ∧ (s.enterFault).inp = s.inp
      ∧ (s.enterFault).out = s.out ∧ (s.enterFault).seq.zones = s.seq.zones
      ∧ (s.enterFault).track.exitSlot = s.track.exitSlot ∧ (s.enterFault).track.tagCounter = s.track.tagCounter
      ∧ (s.enterFault).track.issued = s.track.issued ∧ (s.enterFault).read = s.read ∧ (s.enterFault).cache = s.cache
      ∧ (s.enterFault).tracker = s.tracker ∧ (s.enterFault).bed = s.bed ∧ (s.enterFault).weigh = s.weigh
      ∧ (s.enterFault).label.txL = s.label.txL ∧ (s.enterFault).label.txR = s.label.txR
      ∧ (s.enterFault).view = s.view ∧ (s.enterFault).rel.stall = s.rel.stall
      ∧ (s.enterFault).line.state = s.line.state ∧ (s.enterFault).line.lastSender = s.line.lastSender
      ∧ (s.enterFault).line.lineErrors = s.line.lineErrors ∧ (s.enterFault).line.retry = s.line.retry
      ∧ (s.enterFault).line.collisions = s.line.collisions ∧ (s.enterFault).line.inFlight = s.line.inFlight
      ∧ (s.enterFault).line.trainPos = s.line.trainPos ∧ (s.enterFault).line.activity = s.line.activity
      ∧ (s.enterFault).line.restartSrc = s.line.restartSrc ∧ (s.enterFault).tx.request = s.tx.request
      ∧ (s.enterFault).tx.report = s.tx.report ∧ (s.enterFault).tx.rejectReserved = s.tx.rejectReserved
      ∧ (s.enterFault).tx.pointer = s.tx.pointer ∧ (s.enterFault).ring = s.ring
      ∧ (s.enterFault).mon.faults = s.mon.faults ∧ (s.enterFault).mon.overflow = s.mon.overflow
      ∧ (s.enterFault).mon.last = s.mon.last ∧ (s.enterFault).mon.motions = s.mon.motions
      ∧ (s.enterFault).free = s.free ∧ (s.enterFault).pending = s.pending := by
  unfold State.enterFault
  split <;> simp

@[simp] theorem State.classEffect_frame (s : State) (k : FaultKind) :
    (s.classEffect k).clock = s.clock ∧ (s.classEffect k).image = s.image ∧ (s.classEffect k).inp = s.inp
      ∧ (s.classEffect k).out = s.out ∧ (s.classEffect k).seq.zones = s.seq.zones
      ∧ (s.classEffect k).track.exitSlot = s.track.exitSlot
      ∧ (s.classEffect k).track.tagCounter = s.track.tagCounter ∧ (s.classEffect k).track.issued = s.track.issued
      ∧ (s.classEffect k).read = s.read ∧ (s.classEffect k).cache = s.cache ∧ (s.classEffect k).tracker = s.tracker
      ∧ (s.classEffect k).bed = s.bed ∧ (s.classEffect k).weigh = s.weigh
      ∧ (s.classEffect k).label.txL = s.label.txL ∧ (s.classEffect k).label.txR = s.label.txR
      ∧ (s.classEffect k).view = s.view ∧ (s.classEffect k).rel.stall = s.rel.stall
      ∧ (s.classEffect k).line.state = s.line.state ∧ (s.classEffect k).line.lastSender = s.line.lastSender
      ∧ (s.classEffect k).line.lineErrors = s.line.lineErrors ∧ (s.classEffect k).line.retry = s.line.retry
      ∧ (s.classEffect k).line.collisions = s.line.collisions ∧ (s.classEffect k).line.inFlight = s.line.inFlight
      ∧ (s.classEffect k).line.trainPos = s.line.trainPos ∧ (s.classEffect k).line.activity = s.line.activity
      ∧ (s.classEffect k).line.restartSrc = s.line.restartSrc ∧ (s.classEffect k).tx.request = s.tx.request
      ∧ (s.classEffect k).tx.report = s.tx.report ∧ (s.classEffect k).tx.rejectReserved = s.tx.rejectReserved
      ∧ (s.classEffect k).tx.pointer = s.tx.pointer ∧ (s.classEffect k).ring = s.ring
      ∧ (s.classEffect k).mon.faults = s.mon.faults ∧ (s.classEffect k).mon.overflow = s.mon.overflow
      ∧ (s.classEffect k).mon.last = s.mon.last ∧ (s.classEffect k).mon.motions = s.mon.motions
      ∧ (s.classEffect k).free = s.free ∧ (s.classEffect k).pending = s.pending := by
  unfold State.classEffect
  split <;> simp

@[simp] theorem State.reportNew_frame (s : State) (e : FaultEntry) :
    (s.reportNew e).clock = s.clock ∧ (s.reportNew e).image = s.image ∧ (s.reportNew e).inp = s.inp
      ∧ (s.reportNew e).out = s.out ∧ (s.reportNew e).seq = s.seq ∧ (s.reportNew e).track = s.track
      ∧ (s.reportNew e).read = s.read ∧ (s.reportNew e).cache = s.cache ∧ (s.reportNew e).tracker = s.tracker
      ∧ (s.reportNew e).bed = s.bed ∧ (s.reportNew e).weigh = s.weigh ∧ (s.reportNew e).wrap = s.wrap
      ∧ (s.reportNew e).label = s.label ∧ (s.reportNew e).view = s.view ∧ (s.reportNew e).rel = s.rel
      ∧ (s.reportNew e).line = s.line ∧ (s.reportNew e).tx.sequence = s.tx.sequence
      ∧ (s.reportNew e).tx.request = s.tx.request ∧ (s.reportNew e).tx.rejectReserved = s.tx.rejectReserved
      ∧ (s.reportNew e).tx.pointer = s.tx.pointer ∧ (s.reportNew e).ring = s.ring ∧ (s.reportNew e).mon = s.mon
      ∧ (s.reportNew e).free = s.free ∧ (s.reportNew e).pending = s.pending := by simp [State.reportNew]

@[simp] theorem State.startNotice_frame (s : State) (src : Source) :
    (s.startNotice src).clock = s.clock ∧ (s.startNotice src).image = s.image ∧ (s.startNotice src).inp = s.inp
      ∧ (s.startNotice src).out = s.out ∧ (s.startNotice src).seq = s.seq ∧ (s.startNotice src).track = s.track
      ∧ (s.startNotice src).read = s.read ∧ (s.startNotice src).cache = s.cache
      ∧ (s.startNotice src).tracker = s.tracker ∧ (s.startNotice src).bed = s.bed
      ∧ (s.startNotice src).weigh = s.weigh ∧ (s.startNotice src).wrap = s.wrap
      ∧ (s.startNotice src).label = s.label ∧ (s.startNotice src).view = s.view ∧ (s.startNotice src).rel = s.rel
      ∧ (s.startNotice src).line.lastSender = s.line.lastSender
      ∧ (s.startNotice src).line.lineErrors = s.line.lineErrors ∧ (s.startNotice src).line.retry = s.line.retry
      ∧ (s.startNotice src).line.collisions = s.line.collisions
      ∧ (s.startNotice src).line.trainPos = s.line.trainPos ∧ (s.startNotice src).line.activity = s.line.activity
      ∧ (s.startNotice src).line.restartSrc = s.line.restartSrc ∧ (s.startNotice src).tx = s.tx
      ∧ (s.startNotice src).ring = s.ring ∧ (s.startNotice src).mon = s.mon ∧ (s.startNotice src).free = s.free
      ∧ (s.startNotice src).pending = s.pending := by simp [State.startNotice]

@[simp] theorem State.restartWait_frame (s : State) :
    (s.restartWait).clock = s.clock ∧ (s.restartWait).image = s.image ∧ (s.restartWait).inp = s.inp
      ∧ (s.restartWait).out = s.out ∧ (s.restartWait).seq = s.seq ∧ (s.restartWait).track = s.track
      ∧ (s.restartWait).read = s.read ∧ (s.restartWait).cache = s.cache ∧ (s.restartWait).tracker = s.tracker
      ∧ (s.restartWait).bed = s.bed ∧ (s.restartWait).weigh = s.weigh ∧ (s.restartWait).wrap = s.wrap
      ∧ (s.restartWait).label = s.label ∧ (s.restartWait).view = s.view ∧ (s.restartWait).rel = s.rel
      ∧ (s.restartWait).line.state = s.line.state ∧ (s.restartWait).line.lastSender = s.line.lastSender
      ∧ (s.restartWait).line.lineErrors = s.line.lineErrors ∧ (s.restartWait).line.retry = s.line.retry
      ∧ (s.restartWait).line.collisions = s.line.collisions ∧ (s.restartWait).line.inFlight = s.line.inFlight
      ∧ (s.restartWait).line.trainPos = s.line.trainPos ∧ (s.restartWait).line.activity = s.line.activity
      ∧ (s.restartWait).line.restartSrc = s.line.restartSrc ∧ (s.restartWait).tx = s.tx
      ∧ (s.restartWait).ring = s.ring ∧ (s.restartWait).mon = s.mon ∧ (s.restartWait).free = s.free
      ∧ (s.restartWait).pending = s.pending := by simp [State.restartWait]

@[simp] theorem State.deferOrIdle_frame (s : State) :
    (s.deferOrIdle).clock = s.clock ∧ (s.deferOrIdle).image = s.image ∧ (s.deferOrIdle).inp = s.inp
      ∧ (s.deferOrIdle).out = s.out ∧ (s.deferOrIdle).seq = s.seq ∧ (s.deferOrIdle).track = s.track
      ∧ (s.deferOrIdle).read = s.read ∧ (s.deferOrIdle).cache = s.cache ∧ (s.deferOrIdle).tracker = s.tracker
      ∧ (s.deferOrIdle).bed = s.bed ∧ (s.deferOrIdle).weigh = s.weigh ∧ (s.deferOrIdle).wrap = s.wrap
      ∧ (s.deferOrIdle).label = s.label ∧ (s.deferOrIdle).view = s.view ∧ (s.deferOrIdle).rel = s.rel
      ∧ (s.deferOrIdle).line.lastSender = s.line.lastSender ∧ (s.deferOrIdle).line.lineErrors = s.line.lineErrors
      ∧ (s.deferOrIdle).line.retry = s.line.retry ∧ (s.deferOrIdle).line.collisions = s.line.collisions
      ∧ (s.deferOrIdle).line.inFlight = s.line.inFlight ∧ (s.deferOrIdle).line.trainPos = s.line.trainPos
      ∧ (s.deferOrIdle).line.activity = s.line.activity ∧ (s.deferOrIdle).line.restartSrc = s.line.restartSrc
      ∧ (s.deferOrIdle).tx = s.tx ∧ (s.deferOrIdle).ring = s.ring ∧ (s.deferOrIdle).mon = s.mon
      ∧ (s.deferOrIdle).free = s.free ∧ (s.deferOrIdle).pending = s.pending := by simp [State.deferOrIdle]

@[simp] theorem State.endTrain_frame (s : State) :
    (s.endTrain).clock = s.clock ∧ (s.endTrain).image = s.image ∧ (s.endTrain).inp = s.inp
      ∧ (s.endTrain).out = s.out ∧ (s.endTrain).seq = s.seq ∧ (s.endTrain).track = s.track
      ∧ (s.endTrain).read = s.read ∧ (s.endTrain).cache = s.cache ∧ (s.endTrain).tracker = s.tracker
      ∧ (s.endTrain).bed = s.bed ∧ (s.endTrain).weigh = s.weigh ∧ (s.endTrain).wrap = s.wrap
      ∧ (s.endTrain).label = s.label ∧ (s.endTrain).view = s.view ∧ (s.endTrain).rel = s.rel
      ∧ (s.endTrain).line.lastSender = s.line.lastSender ∧ (s.endTrain).line.lineErrors = s.line.lineErrors
      ∧ (s.endTrain).line.retry = s.line.retry ∧ (s.endTrain).line.collisions = s.line.collisions
      ∧ (s.endTrain).line.inFlight = s.line.inFlight ∧ (s.endTrain).line.activity = s.line.activity
      ∧ (s.endTrain).line.restartSrc = s.line.restartSrc ∧ (s.endTrain).tx = s.tx ∧ (s.endTrain).ring = s.ring
      ∧ (s.endTrain).mon = s.mon ∧ (s.endTrain).free = s.free ∧ (s.endTrain).pending = s.pending := by simp [State.endTrain]

@[simp] theorem State.activityBegins_frame (s : State) :
    (s.activityBegins).clock = s.clock ∧ (s.activityBegins).image = s.image ∧ (s.activityBegins).inp = s.inp
      ∧ (s.activityBegins).out = s.out ∧ (s.activityBegins).seq = s.seq ∧ (s.activityBegins).track = s.track
      ∧ (s.activityBegins).read = s.read ∧ (s.activityBegins).cache = s.cache
      ∧ (s.activityBegins).tracker = s.tracker ∧ (s.activityBegins).bed = s.bed ∧ (s.activityBegins).weigh = s.weigh
      ∧ (s.activityBegins).wrap = s.wrap ∧ (s.activityBegins).label = s.label ∧ (s.activityBegins).view = s.view
      ∧ (s.activityBegins).rel = s.rel ∧ (s.activityBegins).line.lastSender = s.line.lastSender
      ∧ (s.activityBegins).line.lineErrors = s.line.lineErrors ∧ (s.activityBegins).line.retry = s.line.retry
      ∧ (s.activityBegins).line.collisions = s.line.collisions ∧ (s.activityBegins).line.inFlight = s.line.inFlight
      ∧ (s.activityBegins).line.restartSrc = s.line.restartSrc ∧ (s.activityBegins).tx = s.tx
      ∧ (s.activityBegins).ring = s.ring ∧ (s.activityBegins).mon = s.mon ∧ (s.activityBegins).free = s.free
      ∧ (s.activityBegins).pending = s.pending := by
  unfold State.activityBegins
  split <;> simp

@[simp] theorem State.activityEnds_frame (s : State) :
    (s.activityEnds).clock = s.clock ∧ (s.activityEnds).image = s.image ∧ (s.activityEnds).inp = s.inp
      ∧ (s.activityEnds).out = s.out ∧ (s.activityEnds).seq = s.seq ∧ (s.activityEnds).track = s.track
      ∧ (s.activityEnds).read = s.read ∧ (s.activityEnds).cache = s.cache ∧ (s.activityEnds).tracker = s.tracker
      ∧ (s.activityEnds).bed = s.bed ∧ (s.activityEnds).weigh = s.weigh ∧ (s.activityEnds).wrap = s.wrap
      ∧ (s.activityEnds).label = s.label ∧ (s.activityEnds).view = s.view ∧ (s.activityEnds).rel = s.rel
      ∧ (s.activityEnds).line.state = s.line.state ∧ (s.activityEnds).line.lastSender = s.line.lastSender
      ∧ (s.activityEnds).line.lineErrors = s.line.lineErrors ∧ (s.activityEnds).line.retry = s.line.retry
      ∧ (s.activityEnds).line.collisions = s.line.collisions ∧ (s.activityEnds).line.inFlight = s.line.inFlight
      ∧ (s.activityEnds).line.trainPos = s.line.trainPos ∧ (s.activityEnds).line.restartSrc = s.line.restartSrc
      ∧ (s.activityEnds).tx = s.tx ∧ (s.activityEnds).ring = s.ring ∧ (s.activityEnds).mon = s.mon
      ∧ (s.activityEnds).free = s.free ∧ (s.activityEnds).pending = s.pending := by simp [State.activityEnds]

@[simp] theorem State.heard_frame (s : State) (src : Station) :
    (s.heard src).clock = s.clock ∧ (s.heard src).image = s.image ∧ (s.heard src).inp = s.inp
      ∧ (s.heard src).out = s.out ∧ (s.heard src).seq = s.seq ∧ (s.heard src).track = s.track
      ∧ (s.heard src).read = s.read ∧ (s.heard src).cache = s.cache ∧ (s.heard src).tracker = s.tracker
      ∧ (s.heard src).bed = s.bed ∧ (s.heard src).weigh = s.weigh ∧ (s.heard src).wrap = s.wrap
      ∧ (s.heard src).label = s.label ∧ (s.heard src).view = s.view ∧ (s.heard src).rel = s.rel
      ∧ (s.heard src).line.lineErrors = s.line.lineErrors ∧ (s.heard src).line.retry = s.line.retry
      ∧ (s.heard src).line.collisions = s.line.collisions ∧ (s.heard src).line.inFlight = s.line.inFlight
      ∧ (s.heard src).line.restartSrc = s.line.restartSrc ∧ (s.heard src).tx = s.tx ∧ (s.heard src).ring = s.ring
      ∧ (s.heard src).mon = s.mon ∧ (s.heard src).free = s.free ∧ (s.heard src).pending = s.pending := by simp [State.heard]

@[simp] theorem State.heardDiscarded_frame (s : State) :
    (s.heardDiscarded).clock = s.clock ∧ (s.heardDiscarded).image = s.image ∧ (s.heardDiscarded).inp = s.inp
      ∧ (s.heardDiscarded).out = s.out ∧ (s.heardDiscarded).seq = s.seq ∧ (s.heardDiscarded).track = s.track
      ∧ (s.heardDiscarded).read = s.read ∧ (s.heardDiscarded).cache = s.cache
      ∧ (s.heardDiscarded).tracker = s.tracker ∧ (s.heardDiscarded).bed = s.bed ∧ (s.heardDiscarded).weigh = s.weigh
      ∧ (s.heardDiscarded).wrap = s.wrap ∧ (s.heardDiscarded).label = s.label ∧ (s.heardDiscarded).view = s.view
      ∧ (s.heardDiscarded).rel = s.rel ∧ (s.heardDiscarded).line.lastSender = s.line.lastSender
      ∧ (s.heardDiscarded).line.retry = s.line.retry ∧ (s.heardDiscarded).line.collisions = s.line.collisions
      ∧ (s.heardDiscarded).line.inFlight = s.line.inFlight ∧ (s.heardDiscarded).line.restartSrc = s.line.restartSrc
      ∧ (s.heardDiscarded).tx = s.tx ∧ (s.heardDiscarded).ring = s.ring ∧ (s.heardDiscarded).mon = s.mon
      ∧ (s.heardDiscarded).free = s.free ∧ (s.heardDiscarded).pending = s.pending := by simp [State.heardDiscarded]

@[simp] theorem State.countSkip_frame (s : State) (skipped : Bool) :
    (s.countSkip skipped).clock = s.clock ∧ (s.countSkip skipped).image = s.image
      ∧ (s.countSkip skipped).inp = s.inp ∧ (s.countSkip skipped).out = s.out ∧ (s.countSkip skipped).seq = s.seq
      ∧ (s.countSkip skipped).track = s.track ∧ (s.countSkip skipped).read = s.read
      ∧ (s.countSkip skipped).cache = s.cache ∧ (s.countSkip skipped).tracker = s.tracker
      ∧ (s.countSkip skipped).bed = s.bed ∧ (s.countSkip skipped).weigh = s.weigh
      ∧ (s.countSkip skipped).wrap = s.wrap ∧ (s.countSkip skipped).label = s.label
      ∧ (s.countSkip skipped).view.entries = s.view.entries ∧ (s.countSkip skipped).rel = s.rel
      ∧ (s.countSkip skipped).line = s.line ∧ (s.countSkip skipped).tx = s.tx ∧ (s.countSkip skipped).ring = s.ring
      ∧ (s.countSkip skipped).mon = s.mon ∧ (s.countSkip skipped).free = s.free
      ∧ (s.countSkip skipped).pending = s.pending := by
  unfold State.countSkip
  split <;> simp

@[simp] theorem State.applyClaim_frame (s : State) (src : Station) (load : BitVec 16) (k : BitVec 8) :
    (s.applyClaim src load k).clock = s.clock ∧ (s.applyClaim src load k).image = s.image
      ∧ (s.applyClaim src load k).inp = s.inp ∧ (s.applyClaim src load k).out = s.out
      ∧ (s.applyClaim src load k).seq = s.seq ∧ (s.applyClaim src load k).track = s.track
      ∧ (s.applyClaim src load k).read = s.read ∧ (s.applyClaim src load k).cache = s.cache
      ∧ (s.applyClaim src load k).tracker = s.tracker ∧ (s.applyClaim src load k).bed = s.bed
      ∧ (s.applyClaim src load k).weigh = s.weigh ∧ (s.applyClaim src load k).wrap = s.wrap
      ∧ (s.applyClaim src load k).label = s.label ∧ (s.applyClaim src load k).rel = s.rel
      ∧ (s.applyClaim src load k).line = s.line ∧ (s.applyClaim src load k).tx = s.tx
      ∧ (s.applyClaim src load k).ring = s.ring ∧ (s.applyClaim src load k).mon = s.mon
      ∧ (s.applyClaim src load k).free = s.free ∧ (s.applyClaim src load k).pending = s.pending := by
  simp only [State.applyClaim]
  (repeat' split) <;> simp

@[simp] theorem State.applyReleased_frame (s : State) (load : BitVec 16) (k : BitVec 8) :
    (s.applyReleased load k).clock = s.clock ∧ (s.applyReleased load k).image = s.image
      ∧ (s.applyReleased load k).inp = s.inp ∧ (s.applyReleased load k).out = s.out
      ∧ (s.applyReleased load k).seq = s.seq ∧ (s.applyReleased load k).track = s.track
      ∧ (s.applyReleased load k).read = s.read ∧ (s.applyReleased load k).cache = s.cache
      ∧ (s.applyReleased load k).tracker = s.tracker ∧ (s.applyReleased load k).bed = s.bed
      ∧ (s.applyReleased load k).weigh = s.weigh ∧ (s.applyReleased load k).wrap = s.wrap
      ∧ (s.applyReleased load k).label = s.label ∧ (s.applyReleased load k).rel = s.rel
      ∧ (s.applyReleased load k).line = s.line ∧ (s.applyReleased load k).tx = s.tx
      ∧ (s.applyReleased load k).ring = s.ring ∧ (s.applyReleased load k).mon = s.mon
      ∧ (s.applyReleased load k).free = s.free ∧ (s.applyReleased load k).pending = s.pending := by
  simp only [State.applyReleased]
  (repeat' split) <;> simp

@[simp] theorem State.applyAbandon_frame (s : State) (src : Station) (load : BitVec 16) (k : BitVec 8) :
    (s.applyAbandon src load k).clock = s.clock ∧ (s.applyAbandon src load k).image = s.image
      ∧ (s.applyAbandon src load k).inp = s.inp ∧ (s.applyAbandon src load k).out = s.out
      ∧ (s.applyAbandon src load k).seq = s.seq ∧ (s.applyAbandon src load k).track = s.track
      ∧ (s.applyAbandon src load k).read = s.read ∧ (s.applyAbandon src load k).cache = s.cache
      ∧ (s.applyAbandon src load k).tracker = s.tracker ∧ (s.applyAbandon src load k).bed = s.bed
      ∧ (s.applyAbandon src load k).weigh = s.weigh ∧ (s.applyAbandon src load k).wrap = s.wrap
      ∧ (s.applyAbandon src load k).label = s.label ∧ (s.applyAbandon src load k).view.skips = s.view.skips
      ∧ (s.applyAbandon src load k).rel = s.rel ∧ (s.applyAbandon src load k).line = s.line
      ∧ (s.applyAbandon src load k).tx = s.tx ∧ (s.applyAbandon src load k).ring = s.ring
      ∧ (s.applyAbandon src load k).mon = s.mon ∧ (s.applyAbandon src load k).free = s.free
      ∧ (s.applyAbandon src load k).pending = s.pending := by
  simp only [State.applyAbandon]
  (repeat' split) <;> simp

@[simp] theorem State.applySkip_frame (s : State) (load : BitVec 16) (n : Nat) :
    (s.applySkip load n).clock = s.clock ∧ (s.applySkip load n).image = s.image ∧ (s.applySkip load n).inp = s.inp
      ∧ (s.applySkip load n).out = s.out ∧ (s.applySkip load n).seq = s.seq ∧ (s.applySkip load n).track = s.track
      ∧ (s.applySkip load n).read = s.read ∧ (s.applySkip load n).cache = s.cache
      ∧ (s.applySkip load n).tracker = s.tracker ∧ (s.applySkip load n).bed = s.bed
      ∧ (s.applySkip load n).weigh = s.weigh ∧ (s.applySkip load n).wrap = s.wrap
      ∧ (s.applySkip load n).label = s.label ∧ (s.applySkip load n).view.skips = s.view.skips
      ∧ (s.applySkip load n).rel = s.rel ∧ (s.applySkip load n).line = s.line ∧ (s.applySkip load n).tx = s.tx
      ∧ (s.applySkip load n).ring = s.ring ∧ (s.applySkip load n).mon = s.mon ∧ (s.applySkip load n).free = s.free
      ∧ (s.applySkip load n).pending = s.pending := by
  simp only [State.applySkip]
  (repeat' split) <;> simp

@[simp] theorem State.applyManifest_frame (s : State) (m : Manifest) :
    (s.applyManifest m).clock = s.clock ∧ (s.applyManifest m).image = s.image ∧ (s.applyManifest m).inp = s.inp
      ∧ (s.applyManifest m).out = s.out ∧ (s.applyManifest m).seq = s.seq ∧ (s.applyManifest m).track = s.track
      ∧ (s.applyManifest m).read = s.read ∧ (s.applyManifest m).cache = s.cache
      ∧ (s.applyManifest m).tracker = s.tracker ∧ (s.applyManifest m).bed = s.bed
      ∧ (s.applyManifest m).weigh = s.weigh ∧ (s.applyManifest m).wrap = s.wrap
      ∧ (s.applyManifest m).label = s.label ∧ (s.applyManifest m).view.skips = s.view.skips
      ∧ (s.applyManifest m).rel = s.rel ∧ (s.applyManifest m).line = s.line ∧ (s.applyManifest m).tx = s.tx
      ∧ (s.applyManifest m).ring = s.ring ∧ (s.applyManifest m).mon = s.mon ∧ (s.applyManifest m).free = s.free
      ∧ (s.applyManifest m).pending = s.pending := by
  simp only [State.applyManifest]
  (repeat' split) <;> simp

@[simp] theorem State.applyClose_frame (s : State) (load : BitVec 16) :
    (s.applyClose load).clock = s.clock ∧ (s.applyClose load).image = s.image ∧ (s.applyClose load).inp = s.inp
      ∧ (s.applyClose load).out = s.out ∧ (s.applyClose load).seq = s.seq ∧ (s.applyClose load).track = s.track
      ∧ (s.applyClose load).read = s.read ∧ (s.applyClose load).cache = s.cache
      ∧ (s.applyClose load).tracker = s.tracker ∧ (s.applyClose load).bed = s.bed
      ∧ (s.applyClose load).weigh = s.weigh ∧ (s.applyClose load).wrap = s.wrap
      ∧ (s.applyClose load).label = s.label ∧ (s.applyClose load).view.skips = s.view.skips
      ∧ (s.applyClose load).rel = s.rel ∧ (s.applyClose load).line = s.line ∧ (s.applyClose load).tx = s.tx
      ∧ (s.applyClose load).ring = s.ring ∧ (s.applyClose load).mon = s.mon ∧ (s.applyClose load).free = s.free
      ∧ (s.applyClose load).pending = s.pending := by
  simp only [State.applyClose]
  (repeat' split) <;> simp

@[simp] theorem State.expireClaim_frame (s : State) (load : BitVec 16) :
    (s.expireClaim load).clock = s.clock ∧ (s.expireClaim load).image = s.image ∧ (s.expireClaim load).inp = s.inp
      ∧ (s.expireClaim load).out = s.out ∧ (s.expireClaim load).seq = s.seq ∧ (s.expireClaim load).track = s.track
      ∧ (s.expireClaim load).read = s.read ∧ (s.expireClaim load).cache = s.cache
      ∧ (s.expireClaim load).tracker = s.tracker ∧ (s.expireClaim load).bed = s.bed
      ∧ (s.expireClaim load).weigh = s.weigh ∧ (s.expireClaim load).wrap = s.wrap
      ∧ (s.expireClaim load).label = s.label ∧ (s.expireClaim load).view.skips = s.view.skips
      ∧ (s.expireClaim load).rel = s.rel ∧ (s.expireClaim load).line = s.line ∧ (s.expireClaim load).tx = s.tx
      ∧ (s.expireClaim load).ring = s.ring ∧ (s.expireClaim load).mon = s.mon ∧ (s.expireClaim load).free = s.free
      ∧ (s.expireClaim load).pending = s.pending := by
  simp only [State.expireClaim]
  (repeat' split) <;> simp

@[simp] theorem State.markOvertaken_frame (s : State) (byRelease : Bool) :
    (s.markOvertaken byRelease).clock = s.clock ∧ (s.markOvertaken byRelease).image = s.image
      ∧ (s.markOvertaken byRelease).inp = s.inp ∧ (s.markOvertaken byRelease).out = s.out
      ∧ (s.markOvertaken byRelease).seq = s.seq ∧ (s.markOvertaken byRelease).track.exitSlot = s.track.exitSlot
      ∧ (s.markOvertaken byRelease).track.tagCounter = s.track.tagCounter
      ∧ (s.markOvertaken byRelease).track.issued = s.track.issued ∧ (s.markOvertaken byRelease).read = s.read
      ∧ (s.markOvertaken byRelease).cache = s.cache ∧ (s.markOvertaken byRelease).tracker = s.tracker
      ∧ (s.markOvertaken byRelease).bed = s.bed ∧ (s.markOvertaken byRelease).weigh = s.weigh
      ∧ (s.markOvertaken byRelease).wrap = s.wrap ∧ (s.markOvertaken byRelease).label = s.label
      ∧ (s.markOvertaken byRelease).view = s.view ∧ (s.markOvertaken byRelease).rel.force = s.rel.force
      ∧ (s.markOvertaken byRelease).rel.stall = s.rel.stall ∧ (s.markOvertaken byRelease).line.state = s.line.state
      ∧ (s.markOvertaken byRelease).line.lastSender = s.line.lastSender
      ∧ (s.markOvertaken byRelease).line.lineErrors = s.line.lineErrors
      ∧ (s.markOvertaken byRelease).line.retry = s.line.retry
      ∧ (s.markOvertaken byRelease).line.collisions = s.line.collisions
      ∧ (s.markOvertaken byRelease).line.inFlight = s.line.inFlight
      ∧ (s.markOvertaken byRelease).line.trainPos = s.line.trainPos
      ∧ (s.markOvertaken byRelease).line.activity = s.line.activity
      ∧ (s.markOvertaken byRelease).line.restartSrc = s.line.restartSrc
      ∧ (s.markOvertaken byRelease).tx.request = s.tx.request ∧ (s.markOvertaken byRelease).tx.report = s.tx.report
      ∧ (s.markOvertaken byRelease).tx.rejectReserved = s.tx.rejectReserved
      ∧ (s.markOvertaken byRelease).tx.pointer = s.tx.pointer ∧ (s.markOvertaken byRelease).ring = s.ring
      ∧ (s.markOvertaken byRelease).mon = s.mon ∧ (s.markOvertaken byRelease).free = s.free
      ∧ (s.markOvertaken byRelease).pending = s.pending := by
  simp only [State.markOvertaken]
  (repeat' split) <;> simp

@[simp] theorem State.bedMoves_frame (s : State) (z : Fin 8) :
    (s.bedMoves z).clock = s.clock ∧ (s.bedMoves z).image = s.image ∧ (s.bedMoves z).inp = s.inp
      ∧ (s.bedMoves z).out = s.out ∧ (s.bedMoves z).seq = s.seq ∧ (s.bedMoves z).track = s.track
      ∧ (s.bedMoves z).read = s.read ∧ (s.bedMoves z).cache = s.cache ∧ (s.bedMoves z).tracker = s.tracker
      ∧ (s.bedMoves z).bed = s.bed ∧ (s.bedMoves z).weigh.zb = s.weigh.zb ∧ (s.bedMoves z).wrap = s.wrap
      ∧ (s.bedMoves z).label = s.label ∧ (s.bedMoves z).view = s.view ∧ (s.bedMoves z).rel = s.rel
      ∧ (s.bedMoves z).line = s.line ∧ (s.bedMoves z).tx = s.tx ∧ (s.bedMoves z).ring = s.ring
      ∧ (s.bedMoves z).mon = s.mon ∧ (s.bedMoves z).free = s.free ∧ (s.bedMoves z).pending = s.pending := by
  unfold State.bedMoves
  split <;> simp

@[simp] theorem State.startTransfer_frame (s : State) (z : Fin 8) :
    (s.startTransfer z).clock = s.clock ∧ (s.startTransfer z).image = s.image ∧ (s.startTransfer z).inp = s.inp
      ∧ (s.startTransfer z).out = s.out ∧ (s.startTransfer z).seq.reject = s.seq.reject
      ∧ (s.startTransfer z).seq.exit = s.seq.exit ∧ (s.startTransfer z).track = s.track
      ∧ (s.startTransfer z).read = s.read ∧ (s.startTransfer z).cache = s.cache
      ∧ (s.startTransfer z).tracker = s.tracker ∧ (s.startTransfer z).bed = s.bed
      ∧ (s.startTransfer z).weigh.zb = s.weigh.zb ∧ (s.startTransfer z).wrap = s.wrap
      ∧ (s.startTransfer z).label = s.label ∧ (s.startTransfer z).view = s.view ∧ (s.startTransfer z).rel = s.rel
      ∧ (s.startTransfer z).line = s.line ∧ (s.startTransfer z).tx = s.tx ∧ (s.startTransfer z).ring = s.ring
      ∧ (s.startTransfer z).mon = s.mon ∧ (s.startTransfer z).free = s.free
      ∧ (s.startTransfer z).pending = s.pending := by simp [State.startTransfer]

@[simp] theorem State.moveRecord_frame (s : State) (z : Fin 8) :
    (s.moveRecord z).clock = s.clock ∧ (s.moveRecord z).image = s.image ∧ (s.moveRecord z).inp = s.inp
      ∧ (s.moveRecord z).out = s.out ∧ (s.moveRecord z).seq.reject = s.seq.reject
      ∧ (s.moveRecord z).seq.exit = s.seq.exit ∧ (s.moveRecord z).track.exitSlot = s.track.exitSlot
      ∧ (s.moveRecord z).track.tagCounter = s.track.tagCounter ∧ (s.moveRecord z).track.issued = s.track.issued
      ∧ (s.moveRecord z).read = s.read ∧ (s.moveRecord z).cache = s.cache ∧ (s.moveRecord z).tracker = s.tracker
      ∧ (s.moveRecord z).bed = s.bed ∧ (s.moveRecord z).weigh = s.weigh ∧ (s.moveRecord z).wrap = s.wrap
      ∧ (s.moveRecord z).label = s.label ∧ (s.moveRecord z).view = s.view ∧ (s.moveRecord z).rel = s.rel
      ∧ (s.moveRecord z).line = s.line ∧ (s.moveRecord z).tx = s.tx ∧ (s.moveRecord z).ring = s.ring
      ∧ (s.moveRecord z).mon = s.mon ∧ (s.moveRecord z).free = s.free ∧ (s.moveRecord z).pending = s.pending := by simp [State.moveRecord]

@[simp] theorem State.dropTransfer_frame (s : State) (z : Fin 8) :
    (s.dropTransfer z).clock = s.clock ∧ (s.dropTransfer z).image = s.image ∧ (s.dropTransfer z).inp = s.inp
      ∧ (s.dropTransfer z).out = s.out ∧ (s.dropTransfer z).seq.reject = s.seq.reject
      ∧ (s.dropTransfer z).seq.exit = s.seq.exit ∧ (s.dropTransfer z).track = s.track
      ∧ (s.dropTransfer z).read = s.read ∧ (s.dropTransfer z).cache = s.cache
      ∧ (s.dropTransfer z).tracker = s.tracker ∧ (s.dropTransfer z).bed = s.bed
      ∧ (s.dropTransfer z).weigh.zb = s.weigh.zb ∧ (s.dropTransfer z).weigh.state = s.weigh.state
      ∧ (s.dropTransfer z).weigh.settled = s.weigh.settled ∧ (s.dropTransfer z).weigh.tSettle = s.weigh.tSettle
      ∧ (s.dropTransfer z).wrap = s.wrap ∧ (s.dropTransfer z).label = s.label ∧ (s.dropTransfer z).view = s.view
      ∧ (s.dropTransfer z).rel = s.rel ∧ (s.dropTransfer z).line = s.line ∧ (s.dropTransfer z).tx = s.tx
      ∧ (s.dropTransfer z).ring = s.ring ∧ (s.dropTransfer z).mon = s.mon ∧ (s.dropTransfer z).free = s.free
      ∧ (s.dropTransfer z).pending = s.pending := by
  unfold State.dropTransfer
  split <;> simp

@[simp] theorem State.endRead_frame (s : State) (tag : BitVec 8) :
    (s.endRead tag).clock = s.clock ∧ (s.endRead tag).image = s.image ∧ (s.endRead tag).inp = s.inp
      ∧ (s.endRead tag).out = s.out ∧ (s.endRead tag).seq = s.seq ∧ (s.endRead tag).track = s.track
      ∧ (s.endRead tag).cache = s.cache ∧ (s.endRead tag).tracker = s.tracker ∧ (s.endRead tag).bed = s.bed
      ∧ (s.endRead tag).weigh = s.weigh ∧ (s.endRead tag).wrap = s.wrap ∧ (s.endRead tag).label = s.label
      ∧ (s.endRead tag).view = s.view ∧ (s.endRead tag).rel = s.rel ∧ (s.endRead tag).line = s.line
      ∧ (s.endRead tag).tx = s.tx ∧ (s.endRead tag).ring = s.ring ∧ (s.endRead tag).mon = s.mon
      ∧ (s.endRead tag).free = s.free ∧ (s.endRead tag).pending = s.pending := by
  unfold State.endRead
  split <;> simp

@[simp] theorem State.countOut_frame (s : State) (p : PalletRecord) :
    (s.countOut p).clock = s.clock ∧ (s.countOut p).image = s.image ∧ (s.countOut p).inp = s.inp
      ∧ (s.countOut p).out = s.out ∧ (s.countOut p).seq = s.seq ∧ (s.countOut p).track = s.track
      ∧ (s.countOut p).read = s.read ∧ (s.countOut p).cache = s.cache ∧ (s.countOut p).tracker = s.tracker
      ∧ (s.countOut p).bed = s.bed ∧ (s.countOut p).weigh = s.weigh ∧ (s.countOut p).wrap = s.wrap
      ∧ (s.countOut p).label = s.label ∧ (s.countOut p).view.skips = s.view.skips ∧ (s.countOut p).rel = s.rel
      ∧ (s.countOut p).line = s.line ∧ (s.countOut p).tx = s.tx ∧ (s.countOut p).ring = s.ring
      ∧ (s.countOut p).mon = s.mon ∧ (s.countOut p).free = s.free ∧ (s.countOut p).pending = s.pending := by
  unfold State.countOut
  split <;> simp

@[simp] theorem State.leaveZone_frame (s : State) (z : Fin 9) :
    (s.leaveZone z).clock = s.clock ∧ (s.leaveZone z).image = s.image ∧ (s.leaveZone z).inp = s.inp
      ∧ (s.leaveZone z).out = s.out ∧ (s.leaveZone z).seq = s.seq ∧ (s.leaveZone z).track = s.track
      ∧ (s.leaveZone z).read = s.read ∧ (s.leaveZone z).cache = s.cache ∧ (s.leaveZone z).tracker = s.tracker
      ∧ (s.leaveZone z).bed = s.bed ∧ (s.leaveZone z).weigh.zb = s.weigh.zb ∧ (s.leaveZone z).wrap = s.wrap
      ∧ (s.leaveZone z).label = s.label ∧ (s.leaveZone z).view = s.view ∧ (s.leaveZone z).rel = s.rel
      ∧ (s.leaveZone z).line = s.line ∧ (s.leaveZone z).tx.sequence = s.tx.sequence
      ∧ (s.leaveZone z).tx.request = s.tx.request ∧ (s.leaveZone z).tx.report = s.tx.report
      ∧ (s.leaveZone z).tx.pointer = s.tx.pointer ∧ (s.leaveZone z).ring = s.ring
      ∧ (s.leaveZone z).mon.lane = s.mon.lane ∧ (s.leaveZone z).mon.overflow = s.mon.overflow
      ∧ (s.leaveZone z).mon.last = s.mon.last ∧ (s.leaveZone z).mon.motions = s.mon.motions
      ∧ (s.leaveZone z).mon.lamp = s.mon.lamp ∧ (s.leaveZone z).mon.lampSince = s.mon.lampSince
      ∧ (s.leaveZone z).free = s.free ∧ (s.leaveZone z).pending = s.pending := by
  unfold State.leaveZone
  split <;> simp

@[simp] theorem State.removeRecord_frame (s : State) (z : Fin 9) :
    (s.removeRecord z).clock = s.clock ∧ (s.removeRecord z).image = s.image ∧ (s.removeRecord z).inp = s.inp
      ∧ (s.removeRecord z).out = s.out ∧ (s.removeRecord z).seq.transfers = s.seq.transfers
      ∧ (s.removeRecord z).seq.reject = s.seq.reject ∧ (s.removeRecord z).seq.exit = s.seq.exit
      ∧ (s.removeRecord z).track.exitSlot = s.track.exitSlot
      ∧ (s.removeRecord z).track.tagCounter = s.track.tagCounter ∧ (s.removeRecord z).track.issued = s.track.issued
      ∧ (s.removeRecord z).cache = s.cache ∧ (s.removeRecord z).bed = s.bed
      ∧ (s.removeRecord z).weigh.zb = s.weigh.zb ∧ (s.removeRecord z).wrap = s.wrap
      ∧ (s.removeRecord z).view.skips = s.view.skips ∧ (s.removeRecord z).rel = s.rel
      ∧ (s.removeRecord z).line.state = s.line.state ∧ (s.removeRecord z).line.lastSender = s.line.lastSender
      ∧ (s.removeRecord z).line.lineErrors = s.line.lineErrors ∧ (s.removeRecord z).line.retry = s.line.retry
      ∧ (s.removeRecord z).line.collisions = s.line.collisions ∧ (s.removeRecord z).line.inFlight = s.line.inFlight
      ∧ (s.removeRecord z).line.trainPos = s.line.trainPos ∧ (s.removeRecord z).line.activity = s.line.activity
      ∧ (s.removeRecord z).line.restartSrc = s.line.restartSrc ∧ (s.removeRecord z).tx.sequence = s.tx.sequence
      ∧ (s.removeRecord z).tx.report = s.tx.report ∧ (s.removeRecord z).tx.pointer = s.tx.pointer
      ∧ (s.removeRecord z).ring = s.ring ∧ (s.removeRecord z).mon.lane = s.mon.lane
      ∧ (s.removeRecord z).mon.overflow = s.mon.overflow ∧ (s.removeRecord z).mon.last = s.mon.last
      ∧ (s.removeRecord z).mon.motions = s.mon.motions ∧ (s.removeRecord z).mon.lamp = s.mon.lamp
      ∧ (s.removeRecord z).mon.lampSince = s.mon.lampSince ∧ (s.removeRecord z).free = s.free
      ∧ (s.removeRecord z).pending = s.pending := by
  unfold State.removeRecord
  split <;> simp

@[simp] theorem State.removeExited_frame (s : State) (o : DispatchOutcome) :
    (s.removeExited o).clock = s.clock ∧ (s.removeExited o).image = s.image ∧ (s.removeExited o).inp = s.inp
      ∧ (s.removeExited o).out = s.out ∧ (s.removeExited o).seq = s.seq
      ∧ (s.removeExited o).track.recs = s.track.recs ∧ (s.removeExited o).track.tagCounter = s.track.tagCounter
      ∧ (s.removeExited o).track.issued = s.track.issued ∧ (s.removeExited o).read = s.read
      ∧ (s.removeExited o).cache = s.cache ∧ (s.removeExited o).bed = s.bed ∧ (s.removeExited o).weigh = s.weigh
      ∧ (s.removeExited o).wrap = s.wrap ∧ (s.removeExited o).view.skips = s.view.skips
      ∧ (s.removeExited o).rel = s.rel ∧ (s.removeExited o).line.state = s.line.state
      ∧ (s.removeExited o).line.lastSender = s.line.lastSender
      ∧ (s.removeExited o).line.lineErrors = s.line.lineErrors ∧ (s.removeExited o).line.retry = s.line.retry
      ∧ (s.removeExited o).line.collisions = s.line.collisions ∧ (s.removeExited o).line.inFlight = s.line.inFlight
      ∧ (s.removeExited o).line.trainPos = s.line.trainPos ∧ (s.removeExited o).line.activity = s.line.activity
      ∧ (s.removeExited o).line.restartSrc = s.line.restartSrc ∧ (s.removeExited o).tx.sequence = s.tx.sequence
      ∧ (s.removeExited o).tx.report = s.tx.report ∧ (s.removeExited o).tx.rejectReserved = s.tx.rejectReserved
      ∧ (s.removeExited o).tx.pointer = s.tx.pointer ∧ (s.removeExited o).mon = s.mon
      ∧ (s.removeExited o).free = s.free ∧ (s.removeExited o).pending = s.pending := by
  unfold State.removeExited
  split <;> simp

@[simp] theorem State.completeExit_frame (s : State) :
    (s.completeExit).clock = s.clock ∧ (s.completeExit).image = s.image ∧ (s.completeExit).inp = s.inp
      ∧ (s.completeExit).out = s.out ∧ (s.completeExit).seq.transfers = s.seq.transfers
      ∧ (s.completeExit).seq.reject = s.seq.reject ∧ (s.completeExit).track.tagCounter = s.track.tagCounter
      ∧ (s.completeExit).track.issued = s.track.issued ∧ (s.completeExit).read = s.read
      ∧ (s.completeExit).cache = s.cache ∧ (s.completeExit).tracker = s.tracker ∧ (s.completeExit).bed = s.bed
      ∧ (s.completeExit).weigh = s.weigh ∧ (s.completeExit).wrap = s.wrap ∧ (s.completeExit).label = s.label
      ∧ (s.completeExit).view = s.view ∧ (s.completeExit).rel.force = s.rel.force
      ∧ (s.completeExit).rel.stall = s.rel.stall ∧ (s.completeExit).line = s.line
      ∧ (s.completeExit).tx.request = s.tx.request ∧ (s.completeExit).tx.report = s.tx.report
      ∧ (s.completeExit).tx.rejectReserved = s.tx.rejectReserved ∧ (s.completeExit).tx.pointer = s.tx.pointer
      ∧ (s.completeExit).ring = s.ring ∧ (s.completeExit).mon = s.mon ∧ (s.completeExit).free = s.free
      ∧ (s.completeExit).pending = s.pending := by
  unfold State.completeExit
  split <;> simp

@[simp] theorem State.startExit_frame (s : State) :
    (s.startExit).clock = s.clock ∧ (s.startExit).image = s.image ∧ (s.startExit).inp = s.inp
      ∧ (s.startExit).out = s.out ∧ (s.startExit).seq.transfers = s.seq.transfers
      ∧ (s.startExit).seq.reject = s.seq.reject ∧ (s.startExit).track.exitSlot = s.track.exitSlot
      ∧ (s.startExit).track.tagCounter = s.track.tagCounter ∧ (s.startExit).track.issued = s.track.issued
      ∧ (s.startExit).read = s.read ∧ (s.startExit).cache = s.cache ∧ (s.startExit).tracker = s.tracker
      ∧ (s.startExit).bed = s.bed ∧ (s.startExit).weigh = s.weigh ∧ (s.startExit).wrap = s.wrap
      ∧ (s.startExit).label = s.label ∧ (s.startExit).view = s.view ∧ (s.startExit).rel = s.rel
      ∧ (s.startExit).line = s.line ∧ (s.startExit).tx = s.tx ∧ (s.startExit).ring = s.ring
      ∧ (s.startExit).mon = s.mon ∧ (s.startExit).free = s.free ∧ (s.startExit).pending = s.pending := by simp [State.startExit]

@[simp] theorem State.resumeExit_frame (s : State) :
    (s.resumeExit).clock = s.clock ∧ (s.resumeExit).image = s.image ∧ (s.resumeExit).inp = s.inp
      ∧ (s.resumeExit).out = s.out ∧ (s.resumeExit).seq.zones = s.seq.zones
      ∧ (s.resumeExit).seq.transfers = s.seq.transfers ∧ (s.resumeExit).seq.reject = s.seq.reject
      ∧ (s.resumeExit).track = s.track ∧ (s.resumeExit).read = s.read ∧ (s.resumeExit).cache = s.cache
      ∧ (s.resumeExit).tracker = s.tracker ∧ (s.resumeExit).bed = s.bed ∧ (s.resumeExit).weigh = s.weigh
      ∧ (s.resumeExit).wrap = s.wrap ∧ (s.resumeExit).label = s.label ∧ (s.resumeExit).view = s.view
      ∧ (s.resumeExit).rel = s.rel ∧ (s.resumeExit).line = s.line ∧ (s.resumeExit).tx = s.tx
      ∧ (s.resumeExit).ring = s.ring ∧ (s.resumeExit).mon = s.mon ∧ (s.resumeExit).free = s.free
      ∧ (s.resumeExit).pending = s.pending := by
  unfold State.resumeExit
  split <;> simp

@[simp] theorem State.startReject_frame (s : State) (identified : Bool) :
    (s.startReject identified).clock = s.clock ∧ (s.startReject identified).image = s.image
      ∧ (s.startReject identified).inp = s.inp ∧ (s.startReject identified).out = s.out
      ∧ (s.startReject identified).seq.transfers = s.seq.transfers
      ∧ (s.startReject identified).seq.exit = s.seq.exit ∧ (s.startReject identified).track = s.track
      ∧ (s.startReject identified).read = s.read ∧ (s.startReject identified).cache = s.cache
      ∧ (s.startReject identified).tracker = s.tracker ∧ (s.startReject identified).bed = s.bed
      ∧ (s.startReject identified).weigh = s.weigh ∧ (s.startReject identified).wrap = s.wrap
      ∧ (s.startReject identified).label = s.label ∧ (s.startReject identified).view = s.view
      ∧ (s.startReject identified).rel = s.rel ∧ (s.startReject identified).line = s.line
      ∧ (s.startReject identified).tx.sequence = s.tx.sequence
      ∧ (s.startReject identified).tx.request = s.tx.request ∧ (s.startReject identified).tx.report = s.tx.report
      ∧ (s.startReject identified).tx.pointer = s.tx.pointer ∧ (s.startReject identified).ring = s.ring
      ∧ (s.startReject identified).mon = s.mon ∧ (s.startReject identified).free = s.free
      ∧ (s.startReject identified).pending = s.pending := by
  unfold State.startReject
  split <;> simp

@[simp] theorem State.doWrapIdle_frame (s : State) :
    (s.doWrapIdle).clock = s.clock ∧ (s.doWrapIdle).image = s.image ∧ (s.doWrapIdle).inp = s.inp
      ∧ (s.doWrapIdle).out = s.out ∧ (s.doWrapIdle).seq = s.seq ∧ (s.doWrapIdle).track = s.track
      ∧ (s.doWrapIdle).read = s.read ∧ (s.doWrapIdle).cache = s.cache ∧ (s.doWrapIdle).tracker = s.tracker
      ∧ (s.doWrapIdle).bed = s.bed ∧ (s.doWrapIdle).weigh = s.weigh ∧ (s.doWrapIdle).wrap.mast = s.wrap.mast
      ∧ (s.doWrapIdle).wrap.homed = s.wrap.homed ∧ (s.doWrapIdle).wrap.conveyor = s.wrap.conveyor
      ∧ (s.doWrapIdle).wrap.angleCapture = s.wrap.angleCapture ∧ (s.doWrapIdle).wrap.angle = s.wrap.angle
      ∧ (s.doWrapIdle).wrap.rev = s.wrap.rev ∧ (s.doWrapIdle).wrap.cls = s.wrap.cls ∧ (s.doWrapIdle).label = s.label
      ∧ (s.doWrapIdle).view = s.view ∧ (s.doWrapIdle).rel = s.rel ∧ (s.doWrapIdle).line = s.line
      ∧ (s.doWrapIdle).tx = s.tx ∧ (s.doWrapIdle).ring = s.ring ∧ (s.doWrapIdle).mon = s.mon
      ∧ (s.doWrapIdle).free = s.free ∧ (s.doWrapIdle).pending = s.pending := by simp [State.doWrapIdle]

@[simp] theorem State.doBedWork_frame (s : State) :
    (s.doBedWork).clock = s.clock ∧ (s.doBedWork).image = s.image ∧ (s.doBedWork).inp = s.inp
      ∧ (s.doBedWork).out = s.out ∧ (s.doBedWork).seq.transfers = s.seq.transfers
      ∧ (s.doBedWork).seq.reject = s.seq.reject ∧ (s.doBedWork).seq.exit = s.seq.exit
      ∧ (s.doBedWork).track.exitSlot = s.track.exitSlot ∧ (s.doBedWork).track.tagCounter = s.track.tagCounter
      ∧ (s.doBedWork).track.issued = s.track.issued ∧ (s.doBedWork).read = s.read ∧ (s.doBedWork).cache = s.cache
      ∧ (s.doBedWork).tracker = s.tracker ∧ (s.doBedWork).bed = s.bed ∧ (s.doBedWork).weigh = s.weigh
      ∧ (s.doBedWork).wrap = s.wrap ∧ (s.doBedWork).label = s.label ∧ (s.doBedWork).view = s.view
      ∧ (s.doBedWork).rel = s.rel ∧ (s.doBedWork).line = s.line ∧ (s.doBedWork).tx = s.tx
      ∧ (s.doBedWork).ring = s.ring ∧ (s.doBedWork).mon = s.mon ∧ (s.doBedWork).free = s.free
      ∧ (s.doBedWork).pending = s.pending := by simp [State.doBedWork]

@[simp] theorem State.doWeigh_frame (s : State) :
    (s.doWeigh).clock = s.clock ∧ (s.doWeigh).image = s.image ∧ (s.doWeigh).inp = s.inp ∧ (s.doWeigh).out = s.out
      ∧ (s.doWeigh).seq = s.seq ∧ (s.doWeigh).track = s.track ∧ (s.doWeigh).read = s.read
      ∧ (s.doWeigh).cache = s.cache ∧ (s.doWeigh).tracker = s.tracker ∧ (s.doWeigh).bed = s.bed
      ∧ (s.doWeigh).weigh.zb = s.weigh.zb ∧ (s.doWeigh).wrap = s.wrap ∧ (s.doWeigh).label = s.label
      ∧ (s.doWeigh).view = s.view ∧ (s.doWeigh).rel = s.rel ∧ (s.doWeigh).line = s.line ∧ (s.doWeigh).tx = s.tx
      ∧ (s.doWeigh).ring = s.ring ∧ (s.doWeigh).mon = s.mon ∧ (s.doWeigh).free = s.free
      ∧ (s.doWeigh).pending = s.pending := by simp [State.doWeigh]

@[simp] theorem State.doSkip_frame (s : State) :
    (s.doSkip).clock = s.clock ∧ (s.doSkip).image = s.image ∧ (s.doSkip).inp = s.inp ∧ (s.doSkip).out = s.out
      ∧ (s.doSkip).seq.transfers = s.seq.transfers ∧ (s.doSkip).seq.reject = s.seq.reject
      ∧ (s.doSkip).seq.exit = s.seq.exit ∧ (s.doSkip).track.exitSlot = s.track.exitSlot
      ∧ (s.doSkip).track.tagCounter = s.track.tagCounter ∧ (s.doSkip).track.issued = s.track.issued
      ∧ (s.doSkip).read = s.read ∧ (s.doSkip).cache = s.cache ∧ (s.doSkip).tracker = s.tracker
      ∧ (s.doSkip).bed = s.bed ∧ (s.doSkip).weigh = s.weigh ∧ (s.doSkip).wrap = s.wrap ∧ (s.doSkip).label = s.label
      ∧ (s.doSkip).view = s.view ∧ (s.doSkip).rel = s.rel ∧ (s.doSkip).line = s.line ∧ (s.doSkip).tx = s.tx
      ∧ (s.doSkip).ring = s.ring ∧ (s.doSkip).mon = s.mon ∧ (s.doSkip).free = s.free
      ∧ (s.doSkip).pending = s.pending := by simp [State.doSkip]

@[simp] theorem State.doWrap_frame (s : State) :
    (s.doWrap).clock = s.clock ∧ (s.doWrap).image = s.image ∧ (s.doWrap).inp = s.inp ∧ (s.doWrap).out = s.out
      ∧ (s.doWrap).seq = s.seq ∧ (s.doWrap).track.exitSlot = s.track.exitSlot
      ∧ (s.doWrap).track.tagCounter = s.track.tagCounter ∧ (s.doWrap).track.issued = s.track.issued
      ∧ (s.doWrap).read = s.read ∧ (s.doWrap).cache = s.cache ∧ (s.doWrap).tracker = s.tracker
      ∧ (s.doWrap).bed = s.bed ∧ (s.doWrap).weigh = s.weigh ∧ (s.doWrap).label = s.label ∧ (s.doWrap).view = s.view
      ∧ (s.doWrap).rel = s.rel ∧ (s.doWrap).line = s.line ∧ (s.doWrap).tx = s.tx ∧ (s.doWrap).ring = s.ring
      ∧ (s.doWrap).mon = s.mon ∧ (s.doWrap).free = s.free ∧ (s.doWrap).pending = s.pending := by simp [State.doWrap]

@[simp] theorem State.doGiveUp_frame (s : State) :
    (s.doGiveUp).clock = s.clock ∧ (s.doGiveUp).image = s.image ∧ (s.doGiveUp).inp = s.inp
      ∧ (s.doGiveUp).out = s.out ∧ (s.doGiveUp).seq = s.seq ∧ (s.doGiveUp).track.exitSlot = s.track.exitSlot
      ∧ (s.doGiveUp).track.tagCounter = s.track.tagCounter ∧ (s.doGiveUp).track.issued = s.track.issued
      ∧ (s.doGiveUp).read = s.read ∧ (s.doGiveUp).cache = s.cache ∧ (s.doGiveUp).tracker = s.tracker
      ∧ (s.doGiveUp).bed = s.bed ∧ (s.doGiveUp).weigh = s.weigh ∧ (s.doGiveUp).wrap = s.wrap
      ∧ (s.doGiveUp).label.labelJob = s.label.labelJob ∧ (s.doGiveUp).view = s.view ∧ (s.doGiveUp).rel = s.rel
      ∧ (s.doGiveUp).line = s.line ∧ (s.doGiveUp).tx = s.tx ∧ (s.doGiveUp).ring = s.ring ∧ (s.doGiveUp).mon = s.mon
      ∧ (s.doGiveUp).free = s.free ∧ (s.doGiveUp).pending = s.pending := by
  unfold State.doGiveUp
  split <;> simp

@[simp] theorem State.doDecide_frame (s : State) :
    (s.doDecide).clock = s.clock ∧ (s.doDecide).image = s.image ∧ (s.doDecide).inp = s.inp
      ∧ (s.doDecide).out = s.out ∧ (s.doDecide).seq = s.seq ∧ (s.doDecide).track.exitSlot = s.track.exitSlot
      ∧ (s.doDecide).track.tagCounter = s.track.tagCounter ∧ (s.doDecide).track.issued = s.track.issued
      ∧ (s.doDecide).read = s.read ∧ (s.doDecide).cache = s.cache ∧ (s.doDecide).tracker = s.tracker
      ∧ (s.doDecide).bed = s.bed ∧ (s.doDecide).weigh = s.weigh ∧ (s.doDecide).wrap = s.wrap
      ∧ (s.doDecide).label.labelJob = s.label.labelJob ∧ (s.doDecide).label.txL = s.label.txL
      ∧ (s.doDecide).label.txR = s.label.txR ∧ (s.doDecide).label.cmp = s.label.cmp ∧ (s.doDecide).view = s.view
      ∧ (s.doDecide).rel = s.rel ∧ (s.doDecide).line = s.line ∧ (s.doDecide).tx = s.tx ∧ (s.doDecide).ring = s.ring
      ∧ (s.doDecide).mon = s.mon ∧ (s.doDecide).free = s.free ∧ (s.doDecide).pending = s.pending := by
  simp only [State.doDecide]
  (repeat' split) <;> simp

@[simp] theorem State.doCompose_frame (s : State) :
    (s.doCompose).clock = s.clock ∧ (s.doCompose).image = s.image ∧ (s.doCompose).inp = s.inp
      ∧ (s.doCompose).out = s.out ∧ (s.doCompose).seq = s.seq ∧ (s.doCompose).track = s.track
      ∧ (s.doCompose).read = s.read ∧ (s.doCompose).cache = s.cache ∧ (s.doCompose).tracker = s.tracker
      ∧ (s.doCompose).bed = s.bed ∧ (s.doCompose).weigh = s.weigh ∧ (s.doCompose).wrap = s.wrap
      ∧ (s.doCompose).label.labelJob = s.label.labelJob ∧ (s.doCompose).label.cmp = s.label.cmp
      ∧ (s.doCompose).view = s.view ∧ (s.doCompose).rel = s.rel ∧ (s.doCompose).line = s.line
      ∧ (s.doCompose).tx = s.tx ∧ (s.doCompose).ring = s.ring ∧ (s.doCompose).mon = s.mon
      ∧ (s.doCompose).free = s.free ∧ (s.doCompose).pending = s.pending := by
  simp only [State.doCompose]
  (repeat' split) <;> simp

@[simp] theorem State.doLabelWork_frame (s : State) :
    (s.doLabelWork).clock = s.clock ∧ (s.doLabelWork).image = s.image ∧ (s.doLabelWork).inp = s.inp
      ∧ (s.doLabelWork).out = s.out ∧ (s.doLabelWork).seq.transfers = s.seq.transfers
      ∧ (s.doLabelWork).seq.reject = s.seq.reject ∧ (s.doLabelWork).seq.exit = s.seq.exit
      ∧ (s.doLabelWork).track = s.track ∧ (s.doLabelWork).read = s.read ∧ (s.doLabelWork).cache = s.cache
      ∧ (s.doLabelWork).tracker = s.tracker ∧ (s.doLabelWork).bed = s.bed ∧ (s.doLabelWork).weigh = s.weigh
      ∧ (s.doLabelWork).wrap = s.wrap ∧ (s.doLabelWork).label = s.label ∧ (s.doLabelWork).view = s.view
      ∧ (s.doLabelWork).rel = s.rel ∧ (s.doLabelWork).line = s.line ∧ (s.doLabelWork).tx = s.tx
      ∧ (s.doLabelWork).ring = s.ring ∧ (s.doLabelWork).mon = s.mon ∧ (s.doLabelWork).free = s.free
      ∧ (s.doLabelWork).pending = s.pending := by simp [State.doLabelWork]

@[simp] theorem State.doReject_frame (s : State) :
    (s.doReject).clock = s.clock ∧ (s.doReject).image = s.image ∧ (s.doReject).inp = s.inp
      ∧ (s.doReject).out = s.out ∧ (s.doReject).seq.transfers = s.seq.transfers ∧ (s.doReject).seq.exit = s.seq.exit
      ∧ (s.doReject).track = s.track ∧ (s.doReject).read = s.read ∧ (s.doReject).cache = s.cache
      ∧ (s.doReject).tracker = s.tracker ∧ (s.doReject).bed = s.bed ∧ (s.doReject).weigh = s.weigh
      ∧ (s.doReject).wrap = s.wrap ∧ (s.doReject).label = s.label ∧ (s.doReject).view = s.view
      ∧ (s.doReject).rel = s.rel ∧ (s.doReject).line = s.line ∧ (s.doReject).tx.sequence = s.tx.sequence
      ∧ (s.doReject).tx.request = s.tx.request ∧ (s.doReject).tx.report = s.tx.report
      ∧ (s.doReject).tx.pointer = s.tx.pointer ∧ (s.doReject).ring = s.ring ∧ (s.doReject).mon = s.mon
      ∧ (s.doReject).free = s.free ∧ (s.doReject).pending = s.pending := by simp [State.doReject]

@[simp] theorem State.doClaim_frame (s : State) :
    (s.doClaim).clock = s.clock ∧ (s.doClaim).image = s.image ∧ (s.doClaim).inp = s.inp ∧ (s.doClaim).out = s.out
      ∧ (s.doClaim).seq = s.seq ∧ (s.doClaim).track.exitSlot = s.track.exitSlot
      ∧ (s.doClaim).track.tagCounter = s.track.tagCounter ∧ (s.doClaim).track.issued = s.track.issued
      ∧ (s.doClaim).read = s.read ∧ (s.doClaim).cache = s.cache ∧ (s.doClaim).tracker = s.tracker
      ∧ (s.doClaim).bed = s.bed ∧ (s.doClaim).weigh = s.weigh ∧ (s.doClaim).wrap = s.wrap
      ∧ (s.doClaim).label = s.label ∧ (s.doClaim).view = s.view ∧ (s.doClaim).line = s.line
      ∧ (s.doClaim).tx.request = s.tx.request ∧ (s.doClaim).tx.report = s.tx.report
      ∧ (s.doClaim).tx.rejectReserved = s.tx.rejectReserved ∧ (s.doClaim).tx.pointer = s.tx.pointer
      ∧ (s.doClaim).ring = s.ring ∧ (s.doClaim).mon = s.mon ∧ (s.doClaim).free = s.free
      ∧ (s.doClaim).pending = s.pending := by
  unfold State.doClaim
  split <;> simp

@[simp] theorem State.judgeStall_frame (s : State) :
    (s.judgeStall).clock = s.clock ∧ (s.judgeStall).image = s.image ∧ (s.judgeStall).inp = s.inp
      ∧ (s.judgeStall).out = s.out ∧ (s.judgeStall).seq = s.seq ∧ (s.judgeStall).track = s.track
      ∧ (s.judgeStall).read = s.read ∧ (s.judgeStall).cache = s.cache ∧ (s.judgeStall).tracker = s.tracker
      ∧ (s.judgeStall).bed = s.bed ∧ (s.judgeStall).weigh = s.weigh ∧ (s.judgeStall).wrap = s.wrap
      ∧ (s.judgeStall).label = s.label ∧ (s.judgeStall).view = s.view ∧ (s.judgeStall).rel.followUp = s.rel.followUp
      ∧ (s.judgeStall).rel.force = s.rel.force ∧ (s.judgeStall).line = s.line ∧ (s.judgeStall).tx = s.tx
      ∧ (s.judgeStall).ring = s.ring ∧ (s.judgeStall).mon = s.mon ∧ (s.judgeStall).free = s.free
      ∧ (s.judgeStall).pending = s.pending := by
  simp only [State.judgeStall]
  (repeat' split) <;> simp

@[simp] theorem State.joinRequest_frame (s : State) (e : TrackEntry) :
    (s.joinRequest e).clock = s.clock ∧ (s.joinRequest e).image = s.image ∧ (s.joinRequest e).inp = s.inp
      ∧ (s.joinRequest e).out = s.out ∧ (s.joinRequest e).seq = s.seq ∧ (s.joinRequest e).track = s.track
      ∧ (s.joinRequest e).read = s.read ∧ (s.joinRequest e).cache = s.cache ∧ (s.joinRequest e).bed = s.bed
      ∧ (s.joinRequest e).weigh = s.weigh ∧ (s.joinRequest e).wrap = s.wrap ∧ (s.joinRequest e).label = s.label
      ∧ (s.joinRequest e).view = s.view ∧ (s.joinRequest e).rel = s.rel ∧ (s.joinRequest e).line = s.line
      ∧ (s.joinRequest e).tx.sequence = s.tx.sequence ∧ (s.joinRequest e).tx.report = s.tx.report
      ∧ (s.joinRequest e).tx.rejectReserved = s.tx.rejectReserved ∧ (s.joinRequest e).tx.pointer = s.tx.pointer
      ∧ (s.joinRequest e).ring = s.ring ∧ (s.joinRequest e).mon = s.mon ∧ (s.joinRequest e).free = s.free
      ∧ (s.joinRequest e).pending = s.pending := by
  unfold State.joinRequest
  split <;> simp

@[simp] theorem State.judgeLine_frame (s : State) :
    (s.judgeLine).clock = s.clock ∧ (s.judgeLine).image = s.image ∧ (s.judgeLine).inp = s.inp
      ∧ (s.judgeLine).out = s.out ∧ (s.judgeLine).seq = s.seq ∧ (s.judgeLine).track = s.track
      ∧ (s.judgeLine).read = s.read ∧ (s.judgeLine).cache = s.cache ∧ (s.judgeLine).tracker = s.tracker
      ∧ (s.judgeLine).bed = s.bed ∧ (s.judgeLine).weigh = s.weigh ∧ (s.judgeLine).wrap = s.wrap
      ∧ (s.judgeLine).label = s.label ∧ (s.judgeLine).view = s.view ∧ (s.judgeLine).rel = s.rel
      ∧ (s.judgeLine).line.lastSender = s.line.lastSender ∧ (s.judgeLine).line.lineErrors = s.line.lineErrors
      ∧ (s.judgeLine).line.retry = s.line.retry ∧ (s.judgeLine).line.collisions = s.line.collisions
      ∧ (s.judgeLine).line.inFlight = s.line.inFlight ∧ (s.judgeLine).line.trainPos = s.line.trainPos
      ∧ (s.judgeLine).line.activity = s.line.activity ∧ (s.judgeLine).line.restartSrc = s.line.restartSrc
      ∧ (s.judgeLine).tx = s.tx ∧ (s.judgeLine).ring = s.ring ∧ (s.judgeLine).mon = s.mon
      ∧ (s.judgeLine).free = s.free ∧ (s.judgeLine).pending = s.pending := by
  unfold State.judgeLine
  split <;> simp

@[simp] theorem State.ownClaimDone_frame (s : State) (marked : Bool) (load : BitVec 16) (k : BitVec 8) :
    (s.ownClaimDone marked load k).clock = s.clock ∧ (s.ownClaimDone marked load k).image = s.image
      ∧ (s.ownClaimDone marked load k).inp = s.inp ∧ (s.ownClaimDone marked load k).out = s.out
      ∧ (s.ownClaimDone marked load k).seq = s.seq
      ∧ (s.ownClaimDone marked load k).track.exitSlot = s.track.exitSlot
      ∧ (s.ownClaimDone marked load k).track.tagCounter = s.track.tagCounter
      ∧ (s.ownClaimDone marked load k).track.issued = s.track.issued ∧ (s.ownClaimDone marked load k).read = s.read
      ∧ (s.ownClaimDone marked load k).cache = s.cache ∧ (s.ownClaimDone marked load k).tracker = s.tracker
      ∧ (s.ownClaimDone marked load k).bed = s.bed ∧ (s.ownClaimDone marked load k).weigh = s.weigh
      ∧ (s.ownClaimDone marked load k).wrap = s.wrap ∧ (s.ownClaimDone marked load k).label = s.label
      ∧ (s.ownClaimDone marked load k).view = s.view ∧ (s.ownClaimDone marked load k).rel.force = s.rel.force
      ∧ (s.ownClaimDone marked load k).rel.stall = s.rel.stall ∧ (s.ownClaimDone marked load k).line = s.line
      ∧ (s.ownClaimDone marked load k).tx.request = s.tx.request
      ∧ (s.ownClaimDone marked load k).tx.report = s.tx.report
      ∧ (s.ownClaimDone marked load k).tx.rejectReserved = s.tx.rejectReserved
      ∧ (s.ownClaimDone marked load k).tx.pointer = s.tx.pointer ∧ (s.ownClaimDone marked load k).ring = s.ring
      ∧ (s.ownClaimDone marked load k).mon = s.mon ∧ (s.ownClaimDone marked load k).free = s.free
      ∧ (s.ownClaimDone marked load k).pending = s.pending := by
  simp only [State.ownClaimDone]
  (repeat' split) <;> simp

@[simp] theorem State.ownReleasedDone_frame (s : State) (load : BitVec 16) (k : BitVec 8) :
    (s.ownReleasedDone load k).clock = s.clock ∧ (s.ownReleasedDone load k).image = s.image
      ∧ (s.ownReleasedDone load k).inp = s.inp ∧ (s.ownReleasedDone load k).out = s.out
      ∧ (s.ownReleasedDone load k).seq = s.seq ∧ (s.ownReleasedDone load k).track.recs = s.track.recs
      ∧ (s.ownReleasedDone load k).track.tagCounter = s.track.tagCounter
      ∧ (s.ownReleasedDone load k).track.issued = s.track.issued ∧ (s.ownReleasedDone load k).read = s.read
      ∧ (s.ownReleasedDone load k).cache = s.cache ∧ (s.ownReleasedDone load k).bed = s.bed
      ∧ (s.ownReleasedDone load k).weigh = s.weigh ∧ (s.ownReleasedDone load k).wrap = s.wrap
      ∧ (s.ownReleasedDone load k).view.skips = s.view.skips ∧ (s.ownReleasedDone load k).rel = s.rel
      ∧ (s.ownReleasedDone load k).line.state = s.line.state
      ∧ (s.ownReleasedDone load k).line.lastSender = s.line.lastSender
      ∧ (s.ownReleasedDone load k).line.lineErrors = s.line.lineErrors
      ∧ (s.ownReleasedDone load k).line.retry = s.line.retry
      ∧ (s.ownReleasedDone load k).line.collisions = s.line.collisions
      ∧ (s.ownReleasedDone load k).line.inFlight = s.line.inFlight
      ∧ (s.ownReleasedDone load k).line.trainPos = s.line.trainPos
      ∧ (s.ownReleasedDone load k).line.activity = s.line.activity
      ∧ (s.ownReleasedDone load k).line.restartSrc = s.line.restartSrc
      ∧ (s.ownReleasedDone load k).tx.sequence = s.tx.sequence ∧ (s.ownReleasedDone load k).tx.report = s.tx.report
      ∧ (s.ownReleasedDone load k).tx.rejectReserved = s.tx.rejectReserved
      ∧ (s.ownReleasedDone load k).tx.pointer = s.tx.pointer ∧ (s.ownReleasedDone load k).mon = s.mon
      ∧ (s.ownReleasedDone load k).free = s.free ∧ (s.ownReleasedDone load k).pending = s.pending := by
  unfold State.ownReleasedDone
  split <;> simp

@[simp] theorem State.placeStalled_frame (s : State) (n : StalledNote) :
    (s.placeStalled n).clock = s.clock ∧ (s.placeStalled n).image = s.image ∧ (s.placeStalled n).inp = s.inp
      ∧ (s.placeStalled n).out = s.out ∧ (s.placeStalled n).seq = s.seq ∧ (s.placeStalled n).track = s.track
      ∧ (s.placeStalled n).read = s.read ∧ (s.placeStalled n).cache = s.cache ∧ (s.placeStalled n).tracker = s.tracker
      ∧ (s.placeStalled n).bed = s.bed ∧ (s.placeStalled n).weigh = s.weigh ∧ (s.placeStalled n).wrap = s.wrap
      ∧ (s.placeStalled n).label = s.label ∧ (s.placeStalled n).view = s.view
      ∧ (s.placeStalled n).rel = s.rel
      ∧ (s.placeStalled n).line = s.line ∧ (s.placeStalled n).tx.request = s.tx.request
      ∧ (s.placeStalled n).tx.report = s.tx.report ∧ (s.placeStalled n).tx.rejectReserved = s.tx.rejectReserved
      ∧ (s.placeStalled n).tx.pointer = s.tx.pointer ∧ (s.placeStalled n).ring = s.ring ∧ (s.placeStalled n).mon = s.mon
      ∧ (s.placeStalled n).free = s.free ∧ (s.placeStalled n).pending = s.pending := by
  unfold State.placeStalled
  split <;> simp

@[simp] theorem State.stallExpired_frame (s : State) :
    (s.stallExpired).clock = s.clock ∧ (s.stallExpired).image = s.image ∧ (s.stallExpired).inp = s.inp
      ∧ (s.stallExpired).out = s.out ∧ (s.stallExpired).seq = s.seq ∧ (s.stallExpired).track = s.track
      ∧ (s.stallExpired).read = s.read ∧ (s.stallExpired).cache = s.cache ∧ (s.stallExpired).tracker = s.tracker
      ∧ (s.stallExpired).bed = s.bed ∧ (s.stallExpired).weigh = s.weigh ∧ (s.stallExpired).wrap = s.wrap
      ∧ (s.stallExpired).label = s.label ∧ (s.stallExpired).view = s.view
      ∧ (s.stallExpired).rel.followUp = s.rel.followUp ∧ (s.stallExpired).rel.force = s.rel.force
      ∧ (s.stallExpired).line = s.line ∧ (s.stallExpired).tx.request = s.tx.request
      ∧ (s.stallExpired).tx.report = s.tx.report ∧ (s.stallExpired).tx.rejectReserved = s.tx.rejectReserved
      ∧ (s.stallExpired).tx.pointer = s.tx.pointer ∧ (s.stallExpired).ring = s.ring ∧ (s.stallExpired).mon = s.mon
      ∧ (s.stallExpired).free = s.free ∧ (s.stallExpired).pending = s.pending := by
  unfold State.stallExpired
  cases s.stalledNotice <;> simp

@[simp] theorem State.joinStalled_frame (s : State) :
    (s.joinStalled).clock = s.clock ∧ (s.joinStalled).image = s.image ∧ (s.joinStalled).inp = s.inp
      ∧ (s.joinStalled).out = s.out ∧ (s.joinStalled).seq = s.seq ∧ (s.joinStalled).track = s.track
      ∧ (s.joinStalled).read = s.read ∧ (s.joinStalled).cache = s.cache ∧ (s.joinStalled).tracker = s.tracker
      ∧ (s.joinStalled).bed = s.bed ∧ (s.joinStalled).weigh = s.weigh ∧ (s.joinStalled).wrap = s.wrap
      ∧ (s.joinStalled).label = s.label ∧ (s.joinStalled).view = s.view
      ∧ (s.joinStalled).rel.followUp = s.rel.followUp ∧ (s.joinStalled).rel.force = s.rel.force
      ∧ (s.joinStalled).line = s.line ∧ (s.joinStalled).tx.request = s.tx.request
      ∧ (s.joinStalled).tx.report = s.tx.report ∧ (s.joinStalled).tx.rejectReserved = s.tx.rejectReserved
      ∧ (s.joinStalled).tx.pointer = s.tx.pointer ∧ (s.joinStalled).ring = s.ring ∧ (s.joinStalled).mon = s.mon
      ∧ (s.joinStalled).free = s.free ∧ (s.joinStalled).pending = s.pending := by
  unfold State.joinStalled
  (repeat' split) <;> simp

@[simp] theorem State.readyAborted_frame (s : State) :
    (s.readyAborted).clock = s.clock ∧ (s.readyAborted).image = s.image ∧ (s.readyAborted).inp = s.inp
      ∧ (s.readyAborted).out = s.out ∧ (s.readyAborted).seq.transfers = s.seq.transfers
      ∧ (s.readyAborted).seq.reject = s.seq.reject ∧ (s.readyAborted).seq.exit = s.seq.exit
      ∧ (s.readyAborted).track = s.track ∧ (s.readyAborted).read = s.read ∧ (s.readyAborted).cache = s.cache
      ∧ (s.readyAborted).tracker = s.tracker ∧ (s.readyAborted).bed = s.bed ∧ (s.readyAborted).weigh = s.weigh
      ∧ (s.readyAborted).wrap = s.wrap ∧ (s.readyAborted).label = s.label ∧ (s.readyAborted).view = s.view
      ∧ (s.readyAborted).rel = s.rel ∧ (s.readyAborted).line = s.line ∧ (s.readyAborted).tx = s.tx
      ∧ (s.readyAborted).ring = s.ring ∧ (s.readyAborted).mon = s.mon ∧ (s.readyAborted).free = s.free
      ∧ (s.readyAborted).pending = s.pending := by
  simp only [State.readyAborted]
  (repeat' split) <;> simp

@[simp] theorem State.dropMotionOut_frame (s : State) (z : Fin 9) :
    (s.dropMotionOut z).clock = s.clock ∧ (s.dropMotionOut z).image = s.image ∧ (s.dropMotionOut z).inp = s.inp
      ∧ (s.dropMotionOut z).out = s.out ∧ (s.dropMotionOut z).seq.exit = s.seq.exit
      ∧ (s.dropMotionOut z).track = s.track ∧ (s.dropMotionOut z).read = s.read
      ∧ (s.dropMotionOut z).cache = s.cache ∧ (s.dropMotionOut z).tracker = s.tracker
      ∧ (s.dropMotionOut z).bed = s.bed ∧ (s.dropMotionOut z).weigh.zb = s.weigh.zb
      ∧ (s.dropMotionOut z).weigh.state = s.weigh.state ∧ (s.dropMotionOut z).weigh.settled = s.weigh.settled
      ∧ (s.dropMotionOut z).weigh.tSettle = s.weigh.tSettle ∧ (s.dropMotionOut z).wrap = s.wrap
      ∧ (s.dropMotionOut z).label = s.label ∧ (s.dropMotionOut z).view = s.view ∧ (s.dropMotionOut z).rel = s.rel
      ∧ (s.dropMotionOut z).line = s.line ∧ (s.dropMotionOut z).tx = s.tx ∧ (s.dropMotionOut z).ring = s.ring
      ∧ (s.dropMotionOut z).mon = s.mon ∧ (s.dropMotionOut z).free = s.free
      ∧ (s.dropMotionOut z).pending = s.pending := by
  simp only [State.dropMotionOut]
  (repeat' split) <;> simp

@[simp] theorem State.purgeZone_frame (s : State) (z : Fin 9) :
    (s.purgeZone z).clock = s.clock ∧ (s.purgeZone z).image = s.image ∧ (s.purgeZone z).inp = s.inp
      ∧ (s.purgeZone z).out = s.out ∧ (s.purgeZone z).seq.exit = s.seq.exit
      ∧ (s.purgeZone z).track.exitSlot = s.track.exitSlot ∧ (s.purgeZone z).track.tagCounter = s.track.tagCounter
      ∧ (s.purgeZone z).track.issued = s.track.issued ∧ (s.purgeZone z).cache = s.cache
      ∧ (s.purgeZone z).bed = s.bed ∧ (s.purgeZone z).weigh.zb = s.weigh.zb ∧ (s.purgeZone z).wrap = s.wrap
      ∧ (s.purgeZone z).view.skips = s.view.skips ∧ (s.purgeZone z).rel.force = s.rel.force
      ∧ (s.purgeZone z).rel.stall = s.rel.stall ∧ (s.purgeZone z).line.state = s.line.state
      ∧ (s.purgeZone z).line.lastSender = s.line.lastSender ∧ (s.purgeZone z).line.lineErrors = s.line.lineErrors
      ∧ (s.purgeZone z).line.retry = s.line.retry ∧ (s.purgeZone z).line.collisions = s.line.collisions
      ∧ (s.purgeZone z).line.inFlight = s.line.inFlight ∧ (s.purgeZone z).line.trainPos = s.line.trainPos
      ∧ (s.purgeZone z).line.activity = s.line.activity ∧ (s.purgeZone z).line.restartSrc = s.line.restartSrc
      ∧ (s.purgeZone z).tx.report = s.tx.report ∧ (s.purgeZone z).tx.pointer = s.tx.pointer
      ∧ (s.purgeZone z).mon.lane = s.mon.lane ∧ (s.purgeZone z).mon.overflow = s.mon.overflow
      ∧ (s.purgeZone z).mon.last = s.mon.last ∧ (s.purgeZone z).mon.motions = s.mon.motions
      ∧ (s.purgeZone z).mon.lamp = s.mon.lamp ∧ (s.purgeZone z).mon.lampSince = s.mon.lampSince
      ∧ (s.purgeZone z).free = s.free ∧ (s.purgeZone z).pending = s.pending := by
  simp only [State.purgeZone]
  (repeat' split) <;> simp

@[simp] theorem State.clearZone_frame (s : State) (z : Fin 9) :
    (s.clearZone z).clock = s.clock ∧ (s.clearZone z).image = s.image ∧ (s.clearZone z).inp = s.inp
      ∧ (s.clearZone z).out = s.out ∧ (s.clearZone z).seq.transfers = s.seq.transfers
      ∧ (s.clearZone z).seq.reject = s.seq.reject ∧ (s.clearZone z).seq.exit = s.seq.exit
      ∧ (s.clearZone z).track.exitSlot = s.track.exitSlot ∧ (s.clearZone z).track.tagCounter = s.track.tagCounter
      ∧ (s.clearZone z).track.issued = s.track.issued ∧ (s.clearZone z).cache = s.cache
      ∧ (s.clearZone z).bed = s.bed ∧ (s.clearZone z).weigh.zb = s.weigh.zb ∧ (s.clearZone z).wrap = s.wrap
      ∧ (s.clearZone z).view.skips = s.view.skips ∧ (s.clearZone z).rel = s.rel
      ∧ (s.clearZone z).line.state = s.line.state ∧ (s.clearZone z).line.lastSender = s.line.lastSender
      ∧ (s.clearZone z).line.lineErrors = s.line.lineErrors ∧ (s.clearZone z).line.retry = s.line.retry
      ∧ (s.clearZone z).line.collisions = s.line.collisions ∧ (s.clearZone z).line.inFlight = s.line.inFlight
      ∧ (s.clearZone z).line.trainPos = s.line.trainPos ∧ (s.clearZone z).line.activity = s.line.activity
      ∧ (s.clearZone z).line.restartSrc = s.line.restartSrc ∧ (s.clearZone z).tx.sequence = s.tx.sequence
      ∧ (s.clearZone z).tx.report = s.tx.report ∧ (s.clearZone z).tx.pointer = s.tx.pointer
      ∧ (s.clearZone z).mon.lane = s.mon.lane ∧ (s.clearZone z).mon.overflow = s.mon.overflow
      ∧ (s.clearZone z).mon.last = s.mon.last ∧ (s.clearZone z).mon.motions = s.mon.motions
      ∧ (s.clearZone z).mon.lamp = s.mon.lamp ∧ (s.clearZone z).mon.lampSince = s.mon.lampSince
      ∧ (s.clearZone z).free = s.free ∧ (s.clearZone z).pending = s.pending := by
  simp only [State.clearZone]
  (repeat' split) <;> simp

@[simp] theorem State.addOrphan_frame (s : State) (z : Fin 9) :
    (s.addOrphan z).clock = s.clock ∧ (s.addOrphan z).image = s.image ∧ (s.addOrphan z).inp = s.inp
      ∧ (s.addOrphan z).out = s.out ∧ (s.addOrphan z).seq.transfers = s.seq.transfers
      ∧ (s.addOrphan z).seq.reject = s.seq.reject ∧ (s.addOrphan z).seq.exit = s.seq.exit
      ∧ (s.addOrphan z).track.exitSlot = s.track.exitSlot ∧ (s.addOrphan z).read = s.read
      ∧ (s.addOrphan z).cache = s.cache ∧ (s.addOrphan z).tracker = s.tracker ∧ (s.addOrphan z).bed = s.bed
      ∧ (s.addOrphan z).weigh = s.weigh ∧ (s.addOrphan z).wrap = s.wrap ∧ (s.addOrphan z).label = s.label
      ∧ (s.addOrphan z).view = s.view ∧ (s.addOrphan z).rel = s.rel ∧ (s.addOrphan z).line = s.line
      ∧ (s.addOrphan z).tx = s.tx ∧ (s.addOrphan z).ring = s.ring ∧ (s.addOrphan z).mon = s.mon
      ∧ (s.addOrphan z).free = s.free ∧ (s.addOrphan z).pending = s.pending := by
  simp only [State.addOrphan]
  (repeat' split) <;> simp

@[simp] theorem State.cutOff_frame (s : State) :
    (s.cutOff).clock = s.clock ∧ (s.cutOff).image = s.image ∧ (s.cutOff).inp = s.inp ∧ (s.cutOff).out = s.out
      ∧ (s.cutOff).seq = s.seq ∧ (s.cutOff).track = s.track ∧ (s.cutOff).read = s.read ∧ (s.cutOff).cache = s.cache
      ∧ (s.cutOff).tracker = s.tracker ∧ (s.cutOff).bed = s.bed ∧ (s.cutOff).weigh = s.weigh
      ∧ (s.cutOff).wrap = s.wrap ∧ (s.cutOff).label = s.label ∧ (s.cutOff).view = s.view ∧ (s.cutOff).rel = s.rel
      ∧ (s.cutOff).tx = s.tx ∧ (s.cutOff).ring = s.ring ∧ (s.cutOff).mon = s.mon ∧ (s.cutOff).free = s.free
      ∧ (s.cutOff).pending = s.pending := by
  unfold State.cutOff
  split <;> simp

@[simp] theorem State.storeManifest_frame (s : State) (m : Manifest) :
    (s.storeManifest m).clock = s.clock ∧ (s.storeManifest m).image = s.image ∧ (s.storeManifest m).inp = s.inp
      ∧ (s.storeManifest m).out = s.out ∧ (s.storeManifest m).seq = s.seq ∧ (s.storeManifest m).track = s.track
      ∧ (s.storeManifest m).read = s.read ∧ (s.storeManifest m).tracker = s.tracker
      ∧ (s.storeManifest m).bed = s.bed ∧ (s.storeManifest m).weigh = s.weigh ∧ (s.storeManifest m).wrap = s.wrap
      ∧ (s.storeManifest m).label = s.label ∧ (s.storeManifest m).view = s.view ∧ (s.storeManifest m).rel = s.rel
      ∧ (s.storeManifest m).line = s.line ∧ (s.storeManifest m).tx = s.tx ∧ (s.storeManifest m).ring = s.ring
      ∧ (s.storeManifest m).mon = s.mon ∧ (s.storeManifest m).free = s.free
      ∧ (s.storeManifest m).pending = s.pending := by simp [State.storeManifest]

@[simp] theorem State.consume_frame (s : State) (z : Fin 9) (ident : BitVec 32) (w : Fin 4) :
    (s.consume z ident w).clock = s.clock ∧ (s.consume z ident w).image = s.image
      ∧ (s.consume z ident w).inp = s.inp ∧ (s.consume z ident w).out = s.out ∧ (s.consume z ident w).seq = s.seq
      ∧ (s.consume z ident w).track.exitSlot = s.track.exitSlot
      ∧ (s.consume z ident w).track.tagCounter = s.track.tagCounter
      ∧ (s.consume z ident w).track.issued = s.track.issued ∧ (s.consume z ident w).read = s.read
      ∧ (s.consume z ident w).tracker = s.tracker ∧ (s.consume z ident w).bed = s.bed
      ∧ (s.consume z ident w).weigh = s.weigh ∧ (s.consume z ident w).wrap = s.wrap
      ∧ (s.consume z ident w).label = s.label ∧ (s.consume z ident w).view.skips = s.view.skips
      ∧ (s.consume z ident w).rel = s.rel ∧ (s.consume z ident w).line = s.line ∧ (s.consume z ident w).tx = s.tx
      ∧ (s.consume z ident w).ring = s.ring ∧ (s.consume z ident w).mon = s.mon
      ∧ (s.consume z ident w).free = s.free ∧ (s.consume z ident w).pending = s.pending := by simp [State.consume]

@[simp] theorem State.takeEntry_frame (s : State) (ident : BitVec 32) (tag : BitVec 8) :
    (s.takeEntry ident tag).clock = s.clock ∧ (s.takeEntry ident tag).image = s.image
      ∧ (s.takeEntry ident tag).inp = s.inp ∧ (s.takeEntry ident tag).out = s.out
      ∧ (s.takeEntry ident tag).seq = s.seq ∧ (s.takeEntry ident tag).track = s.track
      ∧ (s.takeEntry ident tag).read = s.read ∧ (s.takeEntry ident tag).cache = s.cache
      ∧ (s.takeEntry ident tag).bed = s.bed ∧ (s.takeEntry ident tag).weigh = s.weigh
      ∧ (s.takeEntry ident tag).wrap = s.wrap ∧ (s.takeEntry ident tag).label = s.label
      ∧ (s.takeEntry ident tag).view = s.view ∧ (s.takeEntry ident tag).rel = s.rel
      ∧ (s.takeEntry ident tag).line = s.line ∧ (s.takeEntry ident tag).tx = s.tx
      ∧ (s.takeEntry ident tag).ring = s.ring ∧ (s.takeEntry ident tag).mon = s.mon
      ∧ (s.takeEntry ident tag).free = s.free ∧ (s.takeEntry ident tag).pending = s.pending := by
  unfold State.takeEntry
  split <;> simp

@[simp] theorem State.identify_frame (s : State) (ident : BitVec 32) (tag : BitVec 8) :
    (s.identify ident tag).clock = s.clock ∧ (s.identify ident tag).image = s.image
      ∧ (s.identify ident tag).inp = s.inp ∧ (s.identify ident tag).out = s.out ∧ (s.identify ident tag).seq = s.seq
      ∧ (s.identify ident tag).track.exitSlot = s.track.exitSlot
      ∧ (s.identify ident tag).track.tagCounter = s.track.tagCounter
      ∧ (s.identify ident tag).track.issued = s.track.issued ∧ (s.identify ident tag).read = s.read
      ∧ (s.identify ident tag).bed = s.bed ∧ (s.identify ident tag).weigh = s.weigh
      ∧ (s.identify ident tag).wrap = s.wrap ∧ (s.identify ident tag).label = s.label
      ∧ (s.identify ident tag).view.skips = s.view.skips ∧ (s.identify ident tag).rel = s.rel
      ∧ (s.identify ident tag).line = s.line ∧ (s.identify ident tag).tx = s.tx
      ∧ (s.identify ident tag).ring = s.ring ∧ (s.identify ident tag).mon = s.mon
      ∧ (s.identify ident tag).free = s.free ∧ (s.identify ident tag).pending = s.pending := by
  simp only [State.identify]
  (repeat' split) <;> simp

@[simp] theorem State.readResolved_frame (s : State) :
    (s.readResolved).clock = s.clock ∧ (s.readResolved).image = s.image ∧ (s.readResolved).inp = s.inp
      ∧ (s.readResolved).out = s.out ∧ (s.readResolved).seq.transfers = s.seq.transfers
      ∧ (s.readResolved).seq.reject = s.seq.reject ∧ (s.readResolved).seq.exit = s.seq.exit
      ∧ (s.readResolved).track = s.track ∧ (s.readResolved).cache = s.cache ∧ (s.readResolved).tracker = s.tracker
      ∧ (s.readResolved).bed = s.bed ∧ (s.readResolved).weigh = s.weigh ∧ (s.readResolved).wrap = s.wrap
      ∧ (s.readResolved).label = s.label ∧ (s.readResolved).view = s.view ∧ (s.readResolved).rel = s.rel
      ∧ (s.readResolved).line = s.line ∧ (s.readResolved).tx = s.tx ∧ (s.readResolved).ring = s.ring
      ∧ (s.readResolved).mon = s.mon ∧ (s.readResolved).free = s.free ∧ (s.readResolved).pending = s.pending := by simp [State.readResolved]

@[simp] theorem State.manifestExpired_frame (s : State) (e : TrackEntry) :
    (s.manifestExpired e).clock = s.clock ∧ (s.manifestExpired e).image = s.image
      ∧ (s.manifestExpired e).inp = s.inp ∧ (s.manifestExpired e).out = s.out ∧ (s.manifestExpired e).seq = s.seq
      ∧ (s.manifestExpired e).track.exitSlot = s.track.exitSlot
      ∧ (s.manifestExpired e).track.tagCounter = s.track.tagCounter
      ∧ (s.manifestExpired e).track.issued = s.track.issued ∧ (s.manifestExpired e).read = s.read
      ∧ (s.manifestExpired e).cache = s.cache ∧ (s.manifestExpired e).bed = s.bed
      ∧ (s.manifestExpired e).weigh = s.weigh ∧ (s.manifestExpired e).wrap = s.wrap
      ∧ (s.manifestExpired e).label = s.label ∧ (s.manifestExpired e).view = s.view
      ∧ (s.manifestExpired e).rel = s.rel ∧ (s.manifestExpired e).line.state = s.line.state
      ∧ (s.manifestExpired e).line.lastSender = s.line.lastSender
      ∧ (s.manifestExpired e).line.lineErrors = s.line.lineErrors ∧ (s.manifestExpired e).line.retry = s.line.retry
      ∧ (s.manifestExpired e).line.collisions = s.line.collisions
      ∧ (s.manifestExpired e).line.inFlight = s.line.inFlight
      ∧ (s.manifestExpired e).line.trainPos = s.line.trainPos
      ∧ (s.manifestExpired e).line.activity = s.line.activity
      ∧ (s.manifestExpired e).line.restartSrc = s.line.restartSrc
      ∧ (s.manifestExpired e).tx.sequence = s.tx.sequence ∧ (s.manifestExpired e).tx.report = s.tx.report
      ∧ (s.manifestExpired e).tx.rejectReserved = s.tx.rejectReserved
      ∧ (s.manifestExpired e).tx.pointer = s.tx.pointer ∧ (s.manifestExpired e).ring = s.ring
      ∧ (s.manifestExpired e).mon = s.mon ∧ (s.manifestExpired e).free = s.free
      ∧ (s.manifestExpired e).pending = s.pending := by
  unfold State.manifestExpired
  split <;> simp

@[simp] theorem State.deliver_frame (s : State) (ident : BitVec 32) :
    (s.deliver ident).clock = s.clock ∧ (s.deliver ident).image = s.image ∧ (s.deliver ident).inp = s.inp
      ∧ (s.deliver ident).out = s.out ∧ (s.deliver ident).seq = s.seq
      ∧ (s.deliver ident).track.exitSlot = s.track.exitSlot
      ∧ (s.deliver ident).track.tagCounter = s.track.tagCounter ∧ (s.deliver ident).track.issued = s.track.issued
      ∧ (s.deliver ident).read = s.read ∧ (s.deliver ident).bed = s.bed ∧ (s.deliver ident).weigh = s.weigh
      ∧ (s.deliver ident).wrap = s.wrap ∧ (s.deliver ident).label = s.label
      ∧ (s.deliver ident).view.skips = s.view.skips ∧ (s.deliver ident).rel = s.rel
      ∧ (s.deliver ident).line.state = s.line.state ∧ (s.deliver ident).line.lastSender = s.line.lastSender
      ∧ (s.deliver ident).line.lineErrors = s.line.lineErrors ∧ (s.deliver ident).line.retry = s.line.retry
      ∧ (s.deliver ident).line.collisions = s.line.collisions ∧ (s.deliver ident).line.inFlight = s.line.inFlight
      ∧ (s.deliver ident).line.trainPos = s.line.trainPos ∧ (s.deliver ident).line.activity = s.line.activity
      ∧ (s.deliver ident).line.restartSrc = s.line.restartSrc ∧ (s.deliver ident).tx.sequence = s.tx.sequence
      ∧ (s.deliver ident).tx.report = s.tx.report ∧ (s.deliver ident).tx.rejectReserved = s.tx.rejectReserved
      ∧ (s.deliver ident).tx.pointer = s.tx.pointer ∧ (s.deliver ident).ring = s.ring
      ∧ (s.deliver ident).mon = s.mon ∧ (s.deliver ident).free = s.free ∧ (s.deliver ident).pending = s.pending := by
  simp only [State.deliver]
  (repeat' split) <;> simp

@[simp] theorem State.voidCache_frame (s : State) (ident : BitVec 32) :
    (s.voidCache ident).clock = s.clock ∧ (s.voidCache ident).image = s.image ∧ (s.voidCache ident).inp = s.inp
      ∧ (s.voidCache ident).out = s.out ∧ (s.voidCache ident).seq = s.seq ∧ (s.voidCache ident).track = s.track
      ∧ (s.voidCache ident).read = s.read ∧ (s.voidCache ident).tracker = s.tracker
      ∧ (s.voidCache ident).bed = s.bed ∧ (s.voidCache ident).weigh = s.weigh ∧ (s.voidCache ident).wrap = s.wrap
      ∧ (s.voidCache ident).label = s.label ∧ (s.voidCache ident).view = s.view ∧ (s.voidCache ident).rel = s.rel
      ∧ (s.voidCache ident).line = s.line ∧ (s.voidCache ident).tx = s.tx ∧ (s.voidCache ident).ring = s.ring
      ∧ (s.voidCache ident).mon = s.mon ∧ (s.voidCache ident).free = s.free
      ∧ (s.voidCache ident).pending = s.pending := by
  unfold State.voidCache
  split <;> simp

@[simp] theorem State.voidEntry_frame (s : State) (ident : BitVec 32) :
    (s.voidEntry ident).clock = s.clock ∧ (s.voidEntry ident).image = s.image ∧ (s.voidEntry ident).inp = s.inp
      ∧ (s.voidEntry ident).out = s.out ∧ (s.voidEntry ident).seq = s.seq ∧ (s.voidEntry ident).track = s.track
      ∧ (s.voidEntry ident).read = s.read ∧ (s.voidEntry ident).cache = s.cache ∧ (s.voidEntry ident).bed = s.bed
      ∧ (s.voidEntry ident).weigh = s.weigh ∧ (s.voidEntry ident).wrap = s.wrap
      ∧ (s.voidEntry ident).label = s.label ∧ (s.voidEntry ident).view = s.view ∧ (s.voidEntry ident).rel = s.rel
      ∧ (s.voidEntry ident).line.state = s.line.state ∧ (s.voidEntry ident).line.lastSender = s.line.lastSender
      ∧ (s.voidEntry ident).line.lineErrors = s.line.lineErrors ∧ (s.voidEntry ident).line.retry = s.line.retry
      ∧ (s.voidEntry ident).line.collisions = s.line.collisions
      ∧ (s.voidEntry ident).line.inFlight = s.line.inFlight ∧ (s.voidEntry ident).line.trainPos = s.line.trainPos
      ∧ (s.voidEntry ident).line.activity = s.line.activity
      ∧ (s.voidEntry ident).line.restartSrc = s.line.restartSrc ∧ (s.voidEntry ident).tx.sequence = s.tx.sequence
      ∧ (s.voidEntry ident).tx.report = s.tx.report ∧ (s.voidEntry ident).tx.rejectReserved = s.tx.rejectReserved
      ∧ (s.voidEntry ident).tx.pointer = s.tx.pointer ∧ (s.voidEntry ident).ring = s.ring
      ∧ (s.voidEntry ident).mon = s.mon ∧ (s.voidEntry ident).free = s.free
      ∧ (s.voidEntry ident).pending = s.pending := by
  unfold State.voidEntry
  split <;> simp

@[simp] theorem State.voidRecords_frame (s : State) (ident : BitVec 32) :
    (s.voidRecords ident).clock = s.clock ∧ (s.voidRecords ident).image = s.image
      ∧ (s.voidRecords ident).inp = s.inp ∧ (s.voidRecords ident).out = s.out ∧ (s.voidRecords ident).seq = s.seq
      ∧ (s.voidRecords ident).track.exitSlot = s.track.exitSlot
      ∧ (s.voidRecords ident).track.tagCounter = s.track.tagCounter
      ∧ (s.voidRecords ident).track.issued = s.track.issued ∧ (s.voidRecords ident).read = s.read
      ∧ (s.voidRecords ident).cache = s.cache ∧ (s.voidRecords ident).tracker = s.tracker
      ∧ (s.voidRecords ident).bed = s.bed ∧ (s.voidRecords ident).weigh = s.weigh
      ∧ (s.voidRecords ident).wrap = s.wrap ∧ (s.voidRecords ident).label = s.label
      ∧ (s.voidRecords ident).view = s.view ∧ (s.voidRecords ident).rel = s.rel
      ∧ (s.voidRecords ident).line = s.line ∧ (s.voidRecords ident).tx = s.tx ∧ (s.voidRecords ident).ring = s.ring
      ∧ (s.voidRecords ident).mon = s.mon ∧ (s.voidRecords ident).free = s.free
      ∧ (s.voidRecords ident).pending = s.pending := by simp [State.voidRecords]

@[simp] theorem State.voidClaim_frame (s : State) (ident : BitVec 32) :
    (s.voidClaim ident).clock = s.clock ∧ (s.voidClaim ident).image = s.image ∧ (s.voidClaim ident).inp = s.inp
      ∧ (s.voidClaim ident).out = s.out ∧ (s.voidClaim ident).seq = s.seq
      ∧ (s.voidClaim ident).track.exitSlot = s.track.exitSlot
      ∧ (s.voidClaim ident).track.tagCounter = s.track.tagCounter
      ∧ (s.voidClaim ident).track.issued = s.track.issued ∧ (s.voidClaim ident).read = s.read
      ∧ (s.voidClaim ident).cache = s.cache ∧ (s.voidClaim ident).tracker = s.tracker
      ∧ (s.voidClaim ident).bed = s.bed ∧ (s.voidClaim ident).weigh = s.weigh ∧ (s.voidClaim ident).wrap = s.wrap
      ∧ (s.voidClaim ident).label = s.label ∧ (s.voidClaim ident).view = s.view
      ∧ (s.voidClaim ident).rel.force = s.rel.force ∧ (s.voidClaim ident).rel.stall = s.rel.stall
      ∧ (s.voidClaim ident).line.state = s.line.state ∧ (s.voidClaim ident).line.lastSender = s.line.lastSender
      ∧ (s.voidClaim ident).line.lineErrors = s.line.lineErrors ∧ (s.voidClaim ident).line.retry = s.line.retry
      ∧ (s.voidClaim ident).line.collisions = s.line.collisions
      ∧ (s.voidClaim ident).line.inFlight = s.line.inFlight ∧ (s.voidClaim ident).line.trainPos = s.line.trainPos
      ∧ (s.voidClaim ident).line.activity = s.line.activity
      ∧ (s.voidClaim ident).line.restartSrc = s.line.restartSrc ∧ (s.voidClaim ident).tx.request = s.tx.request
      ∧ (s.voidClaim ident).tx.report = s.tx.report ∧ (s.voidClaim ident).tx.rejectReserved = s.tx.rejectReserved
      ∧ (s.voidClaim ident).tx.pointer = s.tx.pointer ∧ (s.voidClaim ident).ring = s.ring
      ∧ (s.voidClaim ident).mon = s.mon ∧ (s.voidClaim ident).free = s.free
      ∧ (s.voidClaim ident).pending = s.pending := by
  simp only [State.voidClaim]
  (repeat' split) <;> simp

@[simp] theorem State.beginTrain_frame (s : State) (src : Option Source) :
    (s.beginTrain src).clock = s.clock ∧ (s.beginTrain src).image = s.image ∧ (s.beginTrain src).inp = s.inp
      ∧ (s.beginTrain src).out = s.out ∧ (s.beginTrain src).seq = s.seq ∧ (s.beginTrain src).track = s.track
      ∧ (s.beginTrain src).read = s.read ∧ (s.beginTrain src).cache = s.cache
      ∧ (s.beginTrain src).tracker = s.tracker ∧ (s.beginTrain src).bed = s.bed ∧ (s.beginTrain src).weigh = s.weigh
      ∧ (s.beginTrain src).wrap = s.wrap ∧ (s.beginTrain src).label = s.label ∧ (s.beginTrain src).view = s.view
      ∧ (s.beginTrain src).rel = s.rel ∧ (s.beginTrain src).line.lastSender = s.line.lastSender
      ∧ (s.beginTrain src).line.lineErrors = s.line.lineErrors ∧ (s.beginTrain src).line.retry = s.line.retry
      ∧ (s.beginTrain src).line.collisions = s.line.collisions ∧ (s.beginTrain src).line.activity = s.line.activity
      ∧ (s.beginTrain src).line.restartSrc = s.line.restartSrc ∧ (s.beginTrain src).tx = s.tx
      ∧ (s.beginTrain src).ring = s.ring ∧ (s.beginTrain src).mon = s.mon ∧ (s.beginTrain src).free = s.free
      ∧ (s.beginTrain src).pending = s.pending := by
  unfold State.beginTrain
  split <;> simp

@[simp] theorem State.accessEnds_frame (s : State) :
    (s.accessEnds).clock = s.clock ∧ (s.accessEnds).image = s.image ∧ (s.accessEnds).inp = s.inp
      ∧ (s.accessEnds).out = s.out ∧ (s.accessEnds).seq = s.seq ∧ (s.accessEnds).track = s.track
      ∧ (s.accessEnds).read = s.read ∧ (s.accessEnds).cache = s.cache ∧ (s.accessEnds).tracker = s.tracker
      ∧ (s.accessEnds).bed = s.bed ∧ (s.accessEnds).weigh = s.weigh ∧ (s.accessEnds).wrap = s.wrap
      ∧ (s.accessEnds).label = s.label ∧ (s.accessEnds).view = s.view ∧ (s.accessEnds).rel = s.rel
      ∧ (s.accessEnds).line.lastSender = s.line.lastSender ∧ (s.accessEnds).line.lineErrors = s.line.lineErrors
      ∧ (s.accessEnds).line.retry = s.line.retry ∧ (s.accessEnds).line.collisions = s.line.collisions
      ∧ (s.accessEnds).line.activity = s.line.activity ∧ (s.accessEnds).line.restartSrc = s.line.restartSrc
      ∧ (s.accessEnds).tx = s.tx ∧ (s.accessEnds).ring = s.ring ∧ (s.accessEnds).mon = s.mon
      ∧ (s.accessEnds).free = s.free ∧ (s.accessEnds).pending = s.pending := by
  unfold State.accessEnds
  split <;> simp

@[simp] theorem State.backoffEnds_frame (s : State) :
    (s.backoffEnds).clock = s.clock ∧ (s.backoffEnds).image = s.image ∧ (s.backoffEnds).inp = s.inp
      ∧ (s.backoffEnds).out = s.out ∧ (s.backoffEnds).seq = s.seq ∧ (s.backoffEnds).track = s.track
      ∧ (s.backoffEnds).read = s.read ∧ (s.backoffEnds).cache = s.cache ∧ (s.backoffEnds).tracker = s.tracker
      ∧ (s.backoffEnds).bed = s.bed ∧ (s.backoffEnds).weigh = s.weigh ∧ (s.backoffEnds).wrap = s.wrap
      ∧ (s.backoffEnds).label = s.label ∧ (s.backoffEnds).view = s.view ∧ (s.backoffEnds).rel = s.rel
      ∧ (s.backoffEnds).line.lastSender = s.line.lastSender ∧ (s.backoffEnds).line.lineErrors = s.line.lineErrors
      ∧ (s.backoffEnds).line.retry = s.line.retry ∧ (s.backoffEnds).line.collisions = s.line.collisions
      ∧ (s.backoffEnds).line.activity = s.line.activity ∧ (s.backoffEnds).tx = s.tx ∧ (s.backoffEnds).ring = s.ring
      ∧ (s.backoffEnds).mon = s.mon ∧ (s.backoffEnds).free = s.free ∧ (s.backoffEnds).pending = s.pending := by
  unfold State.backoffEnds
  split <;> simp

@[simp] theorem State.gapEnds_frame (s : State) :
    (s.gapEnds).clock = s.clock ∧ (s.gapEnds).image = s.image ∧ (s.gapEnds).inp = s.inp ∧ (s.gapEnds).out = s.out
      ∧ (s.gapEnds).seq = s.seq ∧ (s.gapEnds).track = s.track ∧ (s.gapEnds).read = s.read
      ∧ (s.gapEnds).cache = s.cache ∧ (s.gapEnds).tracker = s.tracker ∧ (s.gapEnds).bed = s.bed
      ∧ (s.gapEnds).weigh = s.weigh ∧ (s.gapEnds).wrap = s.wrap ∧ (s.gapEnds).label = s.label
      ∧ (s.gapEnds).view = s.view ∧ (s.gapEnds).rel = s.rel ∧ (s.gapEnds).line.lastSender = s.line.lastSender
      ∧ (s.gapEnds).line.lineErrors = s.line.lineErrors ∧ (s.gapEnds).line.retry = s.line.retry
      ∧ (s.gapEnds).line.collisions = s.line.collisions ∧ (s.gapEnds).line.activity = s.line.activity
      ∧ (s.gapEnds).line.restartSrc = s.line.restartSrc ∧ (s.gapEnds).tx = s.tx ∧ (s.gapEnds).ring = s.ring
      ∧ (s.gapEnds).mon = s.mon ∧ (s.gapEnds).free = s.free ∧ (s.gapEnds).pending = s.pending := by
  simp only [State.gapEnds]
  (repeat' split) <;> simp

@[simp] theorem State.countAbort_frame (s : State) (src : Source) :
    (s.countAbort src).clock = s.clock ∧ (s.countAbort src).image = s.image ∧ (s.countAbort src).inp = s.inp
      ∧ (s.countAbort src).out = s.out ∧ (s.countAbort src).seq = s.seq ∧ (s.countAbort src).track = s.track
      ∧ (s.countAbort src).read = s.read ∧ (s.countAbort src).cache = s.cache
      ∧ (s.countAbort src).tracker = s.tracker ∧ (s.countAbort src).bed = s.bed ∧ (s.countAbort src).weigh = s.weigh
      ∧ (s.countAbort src).wrap = s.wrap ∧ (s.countAbort src).label = s.label ∧ (s.countAbort src).view = s.view
      ∧ (s.countAbort src).rel = s.rel ∧ (s.countAbort src).tx = s.tx ∧ (s.countAbort src).ring = s.ring
      ∧ (s.countAbort src).mon = s.mon ∧ (s.countAbort src).free = s.free ∧ (s.countAbort src).pending = s.pending := by simp [State.countAbort]

end Sys2Proof.Machine
end

