-- ==== Sys2Proof/Laws/Events.lean ====
section
/-! SUPPORT. What a raise, a received notice, a timer's expiry and an event can do, each said once; the frames of the
operations that raise; that every command answers a next state; which receptions change the line alone, and that a wrap
start keeps the stall timer's form. -/

namespace Sys2Proof.Machine

/-! ## Raising a fault -/

/-- The fault list after a raise (R174). -/
theorem State.raise_faults (s : State) (k : FaultKind) (z : Option (Fin 11)) :
    (s.raise k z).mon.faults =
      if s.mon.faults.any (FaultEntry.isFor k z) then
        s.mon.faults.map (fun (e : FaultEntry) => if e.isFor k z then e.again else e)
      else if s.mon.faults.length < 8 then s.mon.faults ++ [⟨k, z, 1, s.clock, true⟩]
      else s.mon.faults := by
  unfold State.raise
  (repeat' split) <;> simp

/-- The lane after the entry into FAULT (R166, R175). -/
theorem State.enterFault_lane (s : State) :
    s.enterFault.mon.lane = if s.mon.lane = .config ∨ s.mon.lane = .unconfigured then s.mon.lane else .fault := by
  unfold State.enterFault
  cases h : s.mon.lane <;> simp [h]

/-- The lane after a raise: FAULT for an immediate kind in a working lane, as it was for a deferred one (R174). -/
theorem State.raise_lane (s : State) (k : FaultKind) (z : Option (Fin 11)) :
    (s.raise k z).mon.lane =
      if k.immediate = true ∧ ¬(s.mon.lane = .config ∨ s.mon.lane = .unconfigured) then .fault else s.mon.lane := by
  unfold State.raise State.classEffect
  (repeat' split) <;> simp_all [State.enterFault_lane]

@[simp] theorem State.raise_frame (s : State) (k : FaultKind) (z : Option (Fin 11)) :
    (s.raise k z).clock = s.clock ∧ (s.raise k z).image = s.image ∧ (s.raise k z).inp = s.inp
      ∧ (s.raise k z).out = s.out ∧ (s.raise k z).seq.zones = s.seq.zones
      ∧ (s.raise k z).track.exitSlot = s.track.exitSlot ∧ (s.raise k z).track.tagCounter = s.track.tagCounter
      ∧ (s.raise k z).track.issued = s.track.issued ∧ (s.raise k z).read = s.read ∧ (s.raise k z).cache = s.cache
      ∧ (s.raise k z).tracker = s.tracker ∧ (s.raise k z).bed = s.bed ∧ (s.raise k z).weigh = s.weigh
      ∧ (s.raise k z).label.txL = s.label.txL ∧ (s.raise k z).label.txR = s.label.txR ∧ (s.raise k z).view = s.view
      ∧ (s.raise k z).rel.stall = s.rel.stall ∧ (s.raise k z).line.state = s.line.state
      ∧ (s.raise k z).line.lastSender = s.line.lastSender ∧ (s.raise k z).line.lineErrors = s.line.lineErrors
      ∧ (s.raise k z).line.retry = s.line.retry ∧ (s.raise k z).line.collisions = s.line.collisions
      ∧ (s.raise k z).line.inFlight = s.line.inFlight ∧ (s.raise k z).line.trainPos = s.line.trainPos
      ∧ (s.raise k z).line.activity = s.line.activity ∧ (s.raise k z).line.restartSrc = s.line.restartSrc
      ∧ (s.raise k z).tx.request = s.tx.request ∧ (s.raise k z).tx.rejectReserved = s.tx.rejectReserved
      ∧ (s.raise k z).tx.pointer = s.tx.pointer ∧ (s.raise k z).ring = s.ring ∧ (s.raise k z).mon.last = s.mon.last
      ∧ (s.raise k z).mon.motions = s.mon.motions ∧ (s.raise k z).free = s.free ∧ (s.raise k z).pending = s.pending := by
  simp only [State.raise]
  (repeat' split) <;> simp

@[simp] theorem State.judgeRise_frame (s before : State) (load : BitVec 16) (released : Option (BitVec 8)) :
    (s.judgeRise before load released).clock = s.clock ∧ (s.judgeRise before load released).image = s.image
      ∧ (s.judgeRise before load released).inp = s.inp ∧ (s.judgeRise before load released).out = s.out
      ∧ (s.judgeRise before load released).seq.zones = s.seq.zones
      ∧ (s.judgeRise before load released).track.exitSlot = s.track.exitSlot
      ∧ (s.judgeRise before load released).track.tagCounter = s.track.tagCounter
      ∧ (s.judgeRise before load released).track.issued = s.track.issued
      ∧ (s.judgeRise before load released).read = s.read ∧ (s.judgeRise before load released).cache = s.cache
      ∧ (s.judgeRise before load released).tracker = s.tracker ∧ (s.judgeRise before load released).bed = s.bed
      ∧ (s.judgeRise before load released).weigh = s.weigh
      ∧ (s.judgeRise before load released).label.txL = s.label.txL
      ∧ (s.judgeRise before load released).label.txR = s.label.txR
      ∧ (s.judgeRise before load released).view = s.view
      ∧ (s.judgeRise before load released).rel.stall = s.rel.stall
      ∧ (s.judgeRise before load released).line.state = s.line.state
      ∧ (s.judgeRise before load released).line.lastSender = s.line.lastSender
      ∧ (s.judgeRise before load released).line.lineErrors = s.line.lineErrors
      ∧ (s.judgeRise before load released).line.retry = s.line.retry
      ∧ (s.judgeRise before load released).line.collisions = s.line.collisions
      ∧ (s.judgeRise before load released).line.inFlight = s.line.inFlight
      ∧ (s.judgeRise before load released).line.trainPos = s.line.trainPos
      ∧ (s.judgeRise before load released).line.activity = s.line.activity
      ∧ (s.judgeRise before load released).line.restartSrc = s.line.restartSrc
      ∧ (s.judgeRise before load released).tx.request = s.tx.request
      ∧ (s.judgeRise before load released).tx.rejectReserved = s.tx.rejectReserved
      ∧ (s.judgeRise before load released).tx.pointer = s.tx.pointer
      ∧ (s.judgeRise before load released).ring = s.ring ∧ (s.judgeRise before load released).mon.last = s.mon.last
      ∧ (s.judgeRise before load released).mon.motions = s.mon.motions
      ∧ (s.judgeRise before load released).free = s.free ∧ (s.judgeRise before load released).pending = s.pending := by
  simp only [State.judgeRise]
  (repeat' split) <;> simp

@[simp] theorem State.meetForeignClaim_frame (s : State) (load : BitVec 16) (k : BitVec 8) :
    (s.meetForeignClaim load k).clock = s.clock ∧ (s.meetForeignClaim load k).image = s.image
      ∧ (s.meetForeignClaim load k).inp = s.inp ∧ (s.meetForeignClaim load k).out = s.out
      ∧ (s.meetForeignClaim load k).seq.zones = s.seq.zones
      ∧ (s.meetForeignClaim load k).track.exitSlot = s.track.exitSlot
      ∧ (s.meetForeignClaim load k).track.tagCounter = s.track.tagCounter
      ∧ (s.meetForeignClaim load k).track.issued = s.track.issued ∧ (s.meetForeignClaim load k).read = s.read
      ∧ (s.meetForeignClaim load k).cache = s.cache ∧ (s.meetForeignClaim load k).tracker = s.tracker
      ∧ (s.meetForeignClaim load k).bed = s.bed ∧ (s.meetForeignClaim load k).weigh = s.weigh
      ∧ (s.meetForeignClaim load k).label.txL = s.label.txL ∧ (s.meetForeignClaim load k).label.txR = s.label.txR
      ∧ (s.meetForeignClaim load k).view = s.view ∧ (s.meetForeignClaim load k).rel.stall = s.rel.stall
      ∧ (s.meetForeignClaim load k).line.state = s.line.state
      ∧ (s.meetForeignClaim load k).line.lastSender = s.line.lastSender
      ∧ (s.meetForeignClaim load k).line.lineErrors = s.line.lineErrors
      ∧ (s.meetForeignClaim load k).line.retry = s.line.retry
      ∧ (s.meetForeignClaim load k).line.collisions = s.line.collisions
      ∧ (s.meetForeignClaim load k).line.inFlight = s.line.inFlight
      ∧ (s.meetForeignClaim load k).line.trainPos = s.line.trainPos
      ∧ (s.meetForeignClaim load k).line.activity = s.line.activity
      ∧ (s.meetForeignClaim load k).line.restartSrc = s.line.restartSrc
      ∧ (s.meetForeignClaim load k).tx.request = s.tx.request
      ∧ (s.meetForeignClaim load k).tx.rejectReserved = s.tx.rejectReserved
      ∧ (s.meetForeignClaim load k).tx.pointer = s.tx.pointer ∧ (s.meetForeignClaim load k).ring = s.ring
      ∧ (s.meetForeignClaim load k).mon.last = s.mon.last ∧ (s.meetForeignClaim load k).mon.motions = s.mon.motions
      ∧ (s.meetForeignClaim load k).free = s.free ∧ (s.meetForeignClaim load k).pending = s.pending := by
  unfold State.meetForeignClaim
  split <;> simp

@[simp] theorem State.meetForeignReleased_frame (s : State) (load : BitVec 16) (k : BitVec 8) :
    (s.meetForeignReleased load k).clock = s.clock ∧ (s.meetForeignReleased load k).image = s.image
      ∧ (s.meetForeignReleased load k).inp = s.inp ∧ (s.meetForeignReleased load k).out = s.out
      ∧ (s.meetForeignReleased load k).seq.zones = s.seq.zones
      ∧ (s.meetForeignReleased load k).track.exitSlot = s.track.exitSlot
      ∧ (s.meetForeignReleased load k).track.tagCounter = s.track.tagCounter
      ∧ (s.meetForeignReleased load k).track.issued = s.track.issued ∧ (s.meetForeignReleased load k).read = s.read
      ∧ (s.meetForeignReleased load k).cache = s.cache ∧ (s.meetForeignReleased load k).tracker = s.tracker
      ∧ (s.meetForeignReleased load k).bed = s.bed ∧ (s.meetForeignReleased load k).weigh = s.weigh
      ∧ (s.meetForeignReleased load k).label.txL = s.label.txL
      ∧ (s.meetForeignReleased load k).label.txR = s.label.txR ∧ (s.meetForeignReleased load k).view = s.view
      ∧ (s.meetForeignReleased load k).rel.stall = s.rel.stall
      ∧ (s.meetForeignReleased load k).line.state = s.line.state
      ∧ (s.meetForeignReleased load k).line.lastSender = s.line.lastSender
      ∧ (s.meetForeignReleased load k).line.lineErrors = s.line.lineErrors
      ∧ (s.meetForeignReleased load k).line.retry = s.line.retry
      ∧ (s.meetForeignReleased load k).line.collisions = s.line.collisions
      ∧ (s.meetForeignReleased load k).line.inFlight = s.line.inFlight
      ∧ (s.meetForeignReleased load k).line.trainPos = s.line.trainPos
      ∧ (s.meetForeignReleased load k).line.activity = s.line.activity
      ∧ (s.meetForeignReleased load k).line.restartSrc = s.line.restartSrc
      ∧ (s.meetForeignReleased load k).tx.request = s.tx.request
      ∧ (s.meetForeignReleased load k).tx.rejectReserved = s.tx.rejectReserved
      ∧ (s.meetForeignReleased load k).tx.pointer = s.tx.pointer ∧ (s.meetForeignReleased load k).ring = s.ring
      ∧ (s.meetForeignReleased load k).mon.last = s.mon.last
      ∧ (s.meetForeignReleased load k).mon.motions = s.mon.motions ∧ (s.meetForeignReleased load k).free = s.free
      ∧ (s.meetForeignReleased load k).pending = s.pending := by
  unfold State.meetForeignReleased
  split <;> simp

@[simp] theorem State.takeClaim_frame (s : State) (src : Station) (load : BitVec 16) (k : BitVec 8) :
    (s.takeClaim src load k).clock = s.clock ∧ (s.takeClaim src load k).image = s.image
      ∧ (s.takeClaim src load k).inp = s.inp ∧ (s.takeClaim src load k).out = s.out
      ∧ (s.takeClaim src load k).seq.zones = s.seq.zones
      ∧ (s.takeClaim src load k).track.exitSlot = s.track.exitSlot
      ∧ (s.takeClaim src load k).track.tagCounter = s.track.tagCounter
      ∧ (s.takeClaim src load k).track.issued = s.track.issued ∧ (s.takeClaim src load k).read = s.read
      ∧ (s.takeClaim src load k).cache = s.cache ∧ (s.takeClaim src load k).tracker = s.tracker
      ∧ (s.takeClaim src load k).bed = s.bed ∧ (s.takeClaim src load k).weigh = s.weigh
      ∧ (s.takeClaim src load k).label.txL = s.label.txL ∧ (s.takeClaim src load k).label.txR = s.label.txR
      ∧ (s.takeClaim src load k).rel.stall = s.rel.stall ∧ (s.takeClaim src load k).line.state = s.line.state
      ∧ (s.takeClaim src load k).line.lastSender = s.line.lastSender
      ∧ (s.takeClaim src load k).line.lineErrors = s.line.lineErrors
      ∧ (s.takeClaim src load k).line.retry = s.line.retry
      ∧ (s.takeClaim src load k).line.collisions = s.line.collisions
      ∧ (s.takeClaim src load k).line.inFlight = s.line.inFlight
      ∧ (s.takeClaim src load k).line.trainPos = s.line.trainPos
      ∧ (s.takeClaim src load k).line.activity = s.line.activity
      ∧ (s.takeClaim src load k).line.restartSrc = s.line.restartSrc
      ∧ (s.takeClaim src load k).tx.request = s.tx.request
      ∧ (s.takeClaim src load k).tx.rejectReserved = s.tx.rejectReserved
      ∧ (s.takeClaim src load k).tx.pointer = s.tx.pointer ∧ (s.takeClaim src load k).ring = s.ring
      ∧ (s.takeClaim src load k).mon.last = s.mon.last ∧ (s.takeClaim src load k).mon.motions = s.mon.motions
      ∧ (s.takeClaim src load k).free = s.free ∧ (s.takeClaim src load k).pending = s.pending := by simp [State.takeClaim]

@[simp] theorem State.takeReleased_frame (s : State) (load : BitVec 16) (k : BitVec 8) :
    (s.takeReleased load k).clock = s.clock ∧ (s.takeReleased load k).image = s.image
      ∧ (s.takeReleased load k).inp = s.inp ∧ (s.takeReleased load k).out = s.out
      ∧ (s.takeReleased load k).seq.zones = s.seq.zones ∧ (s.takeReleased load k).track.exitSlot = s.track.exitSlot
      ∧ (s.takeReleased load k).track.tagCounter = s.track.tagCounter
      ∧ (s.takeReleased load k).track.issued = s.track.issued ∧ (s.takeReleased load k).read = s.read
      ∧ (s.takeReleased load k).cache = s.cache ∧ (s.takeReleased load k).tracker = s.tracker
      ∧ (s.takeReleased load k).bed = s.bed ∧ (s.takeReleased load k).weigh = s.weigh
      ∧ (s.takeReleased load k).label.txL = s.label.txL ∧ (s.takeReleased load k).label.txR = s.label.txR
      ∧ (s.takeReleased load k).rel.stall = s.rel.stall ∧ (s.takeReleased load k).line.state = s.line.state
      ∧ (s.takeReleased load k).line.lastSender = s.line.lastSender
      ∧ (s.takeReleased load k).line.lineErrors = s.line.lineErrors
      ∧ (s.takeReleased load k).line.retry = s.line.retry
      ∧ (s.takeReleased load k).line.collisions = s.line.collisions
      ∧ (s.takeReleased load k).line.inFlight = s.line.inFlight
      ∧ (s.takeReleased load k).line.trainPos = s.line.trainPos
      ∧ (s.takeReleased load k).line.activity = s.line.activity
      ∧ (s.takeReleased load k).line.restartSrc = s.line.restartSrc
      ∧ (s.takeReleased load k).tx.request = s.tx.request
      ∧ (s.takeReleased load k).tx.rejectReserved = s.tx.rejectReserved
      ∧ (s.takeReleased load k).tx.pointer = s.tx.pointer ∧ (s.takeReleased load k).ring = s.ring
      ∧ (s.takeReleased load k).mon.last = s.mon.last ∧ (s.takeReleased load k).mon.motions = s.mon.motions
      ∧ (s.takeReleased load k).free = s.free ∧ (s.takeReleased load k).pending = s.pending := by simp [State.takeReleased]

@[simp] theorem State.takeSkip_frame (s : State) (load : BitVec 16) (n : Nat) :
    (s.takeSkip load n).clock = s.clock ∧ (s.takeSkip load n).image = s.image ∧ (s.takeSkip load n).inp = s.inp
      ∧ (s.takeSkip load n).out = s.out ∧ (s.takeSkip load n).seq.zones = s.seq.zones
      ∧ (s.takeSkip load n).track.exitSlot = s.track.exitSlot
      ∧ (s.takeSkip load n).track.tagCounter = s.track.tagCounter
      ∧ (s.takeSkip load n).track.issued = s.track.issued ∧ (s.takeSkip load n).read = s.read
      ∧ (s.takeSkip load n).cache = s.cache ∧ (s.takeSkip load n).tracker = s.tracker
      ∧ (s.takeSkip load n).bed = s.bed ∧ (s.takeSkip load n).weigh = s.weigh
      ∧ (s.takeSkip load n).label.txL = s.label.txL ∧ (s.takeSkip load n).label.txR = s.label.txR
      ∧ (s.takeSkip load n).view.skips = s.view.skips ∧ (s.takeSkip load n).rel.stall = s.rel.stall
      ∧ (s.takeSkip load n).line.state = s.line.state ∧ (s.takeSkip load n).line.lastSender = s.line.lastSender
      ∧ (s.takeSkip load n).line.lineErrors = s.line.lineErrors ∧ (s.takeSkip load n).line.retry = s.line.retry
      ∧ (s.takeSkip load n).line.collisions = s.line.collisions
      ∧ (s.takeSkip load n).line.inFlight = s.line.inFlight ∧ (s.takeSkip load n).line.trainPos = s.line.trainPos
      ∧ (s.takeSkip load n).line.activity = s.line.activity
      ∧ (s.takeSkip load n).line.restartSrc = s.line.restartSrc ∧ (s.takeSkip load n).tx.request = s.tx.request
      ∧ (s.takeSkip load n).tx.rejectReserved = s.tx.rejectReserved ∧ (s.takeSkip load n).tx.pointer = s.tx.pointer
      ∧ (s.takeSkip load n).ring = s.ring ∧ (s.takeSkip load n).mon.last = s.mon.last
      ∧ (s.takeSkip load n).mon.motions = s.mon.motions ∧ (s.takeSkip load n).free = s.free
      ∧ (s.takeSkip load n).pending = s.pending := by simp [State.takeSkip]

@[simp] theorem State.estopMoves_frame (s : State) (asserted : Bool) :
    (s.estopMoves asserted).clock = s.clock ∧ (s.estopMoves asserted).image = s.image
      ∧ (s.estopMoves asserted).inp = s.inp ∧ (s.estopMoves asserted).out = s.out
      ∧ (s.estopMoves asserted).seq.zones = s.seq.zones ∧ (s.estopMoves asserted).track.exitSlot = s.track.exitSlot
      ∧ (s.estopMoves asserted).track.tagCounter = s.track.tagCounter
      ∧ (s.estopMoves asserted).track.issued = s.track.issued ∧ (s.estopMoves asserted).read = s.read
      ∧ (s.estopMoves asserted).cache = s.cache ∧ (s.estopMoves asserted).tracker = s.tracker
      ∧ (s.estopMoves asserted).bed = s.bed ∧ (s.estopMoves asserted).weigh = s.weigh
      ∧ (s.estopMoves asserted).label.txL = s.label.txL ∧ (s.estopMoves asserted).label.txR = s.label.txR
      ∧ (s.estopMoves asserted).view = s.view ∧ (s.estopMoves asserted).rel.stall = s.rel.stall
      ∧ (s.estopMoves asserted).line.state = s.line.state
      ∧ (s.estopMoves asserted).line.lastSender = s.line.lastSender
      ∧ (s.estopMoves asserted).line.lineErrors = s.line.lineErrors
      ∧ (s.estopMoves asserted).line.retry = s.line.retry
      ∧ (s.estopMoves asserted).line.collisions = s.line.collisions
      ∧ (s.estopMoves asserted).line.inFlight = s.line.inFlight
      ∧ (s.estopMoves asserted).line.trainPos = s.line.trainPos
      ∧ (s.estopMoves asserted).line.activity = s.line.activity
      ∧ (s.estopMoves asserted).line.restartSrc = s.line.restartSrc
      ∧ (s.estopMoves asserted).tx.request = s.tx.request
      ∧ (s.estopMoves asserted).tx.rejectReserved = s.tx.rejectReserved
      ∧ (s.estopMoves asserted).tx.pointer = s.tx.pointer ∧ (s.estopMoves asserted).ring = s.ring
      ∧ (s.estopMoves asserted).mon.last = s.mon.last ∧ (s.estopMoves asserted).mon.motions = s.mon.motions
      ∧ (s.estopMoves asserted).free = s.free ∧ (s.estopMoves asserted).pending = s.pending := by
  unfold State.estopMoves
  split <;> simp

@[simp] theorem State.mastBeyond_frame (s : State) :
    (s.mastBeyond).clock = s.clock ∧ (s.mastBeyond).image = s.image ∧ (s.mastBeyond).inp = s.inp
      ∧ (s.mastBeyond).out = s.out ∧ (s.mastBeyond).seq.zones = s.seq.zones
      ∧ (s.mastBeyond).track.exitSlot = s.track.exitSlot ∧ (s.mastBeyond).track.tagCounter = s.track.tagCounter
      ∧ (s.mastBeyond).track.issued = s.track.issued ∧ (s.mastBeyond).read = s.read ∧ (s.mastBeyond).cache = s.cache
      ∧ (s.mastBeyond).tracker = s.tracker ∧ (s.mastBeyond).bed = s.bed ∧ (s.mastBeyond).weigh = s.weigh
      ∧ (s.mastBeyond).label.txL = s.label.txL ∧ (s.mastBeyond).label.txR = s.label.txR
      ∧ (s.mastBeyond).view = s.view ∧ (s.mastBeyond).rel.stall = s.rel.stall
      ∧ (s.mastBeyond).line.state = s.line.state ∧ (s.mastBeyond).line.lastSender = s.line.lastSender
      ∧ (s.mastBeyond).line.lineErrors = s.line.lineErrors ∧ (s.mastBeyond).line.retry = s.line.retry
      ∧ (s.mastBeyond).line.collisions = s.line.collisions ∧ (s.mastBeyond).line.inFlight = s.line.inFlight
      ∧ (s.mastBeyond).line.trainPos = s.line.trainPos ∧ (s.mastBeyond).line.activity = s.line.activity
      ∧ (s.mastBeyond).line.restartSrc = s.line.restartSrc ∧ (s.mastBeyond).tx.request = s.tx.request
      ∧ (s.mastBeyond).tx.rejectReserved = s.tx.rejectReserved ∧ (s.mastBeyond).tx.pointer = s.tx.pointer
      ∧ (s.mastBeyond).ring = s.ring ∧ (s.mastBeyond).mon.last = s.mon.last
      ∧ (s.mastBeyond).mon.motions = s.mon.motions ∧ (s.mastBeyond).free = s.free
      ∧ (s.mastBeyond).pending = s.pending := by
  unfold State.mastBeyond
  split <;> simp

@[simp] theorem State.filmLowMoves_frame (s : State) (asserted : Bool) :
    (s.filmLowMoves asserted).clock = s.clock ∧ (s.filmLowMoves asserted).image = s.image
      ∧ (s.filmLowMoves asserted).inp = s.inp ∧ (s.filmLowMoves asserted).out = s.out
      ∧ (s.filmLowMoves asserted).seq.zones = s.seq.zones
      ∧ (s.filmLowMoves asserted).track.exitSlot = s.track.exitSlot
      ∧ (s.filmLowMoves asserted).track.tagCounter = s.track.tagCounter
      ∧ (s.filmLowMoves asserted).track.issued = s.track.issued ∧ (s.filmLowMoves asserted).read = s.read
      ∧ (s.filmLowMoves asserted).cache = s.cache ∧ (s.filmLowMoves asserted).tracker = s.tracker
      ∧ (s.filmLowMoves asserted).bed = s.bed ∧ (s.filmLowMoves asserted).weigh = s.weigh
      ∧ (s.filmLowMoves asserted).label.txL = s.label.txL ∧ (s.filmLowMoves asserted).label.txR = s.label.txR
      ∧ (s.filmLowMoves asserted).view = s.view ∧ (s.filmLowMoves asserted).rel.stall = s.rel.stall
      ∧ (s.filmLowMoves asserted).line.state = s.line.state
      ∧ (s.filmLowMoves asserted).line.lastSender = s.line.lastSender
      ∧ (s.filmLowMoves asserted).line.lineErrors = s.line.lineErrors
      ∧ (s.filmLowMoves asserted).line.retry = s.line.retry
      ∧ (s.filmLowMoves asserted).line.collisions = s.line.collisions
      ∧ (s.filmLowMoves asserted).line.inFlight = s.line.inFlight
      ∧ (s.filmLowMoves asserted).line.trainPos = s.line.trainPos
      ∧ (s.filmLowMoves asserted).line.activity = s.line.activity
      ∧ (s.filmLowMoves asserted).line.restartSrc = s.line.restartSrc
      ∧ (s.filmLowMoves asserted).tx.request = s.tx.request
      ∧ (s.filmLowMoves asserted).tx.rejectReserved = s.tx.rejectReserved
      ∧ (s.filmLowMoves asserted).tx.pointer = s.tx.pointer ∧ (s.filmLowMoves asserted).ring = s.ring
      ∧ (s.filmLowMoves asserted).mon.last = s.mon.last ∧ (s.filmLowMoves asserted).mon.motions = s.mon.motions
      ∧ (s.filmLowMoves asserted).free = s.free ∧ (s.filmLowMoves asserted).pending = s.pending := by
  unfold State.filmLowMoves
  split <;> simp

@[simp] theorem State.labelLowMoves_frame (s : State) (asserted : Bool) :
    (s.labelLowMoves asserted).clock = s.clock ∧ (s.labelLowMoves asserted).image = s.image
      ∧ (s.labelLowMoves asserted).inp = s.inp ∧ (s.labelLowMoves asserted).out = s.out
      ∧ (s.labelLowMoves asserted).seq.zones = s.seq.zones
      ∧ (s.labelLowMoves asserted).track.exitSlot = s.track.exitSlot
      ∧ (s.labelLowMoves asserted).track.tagCounter = s.track.tagCounter
      ∧ (s.labelLowMoves asserted).track.issued = s.track.issued ∧ (s.labelLowMoves asserted).read = s.read
      ∧ (s.labelLowMoves asserted).cache = s.cache ∧ (s.labelLowMoves asserted).tracker = s.tracker
      ∧ (s.labelLowMoves asserted).bed = s.bed ∧ (s.labelLowMoves asserted).weigh = s.weigh
      ∧ (s.labelLowMoves asserted).label.txL = s.label.txL ∧ (s.labelLowMoves asserted).label.txR = s.label.txR
      ∧ (s.labelLowMoves asserted).view = s.view ∧ (s.labelLowMoves asserted).rel.stall = s.rel.stall
      ∧ (s.labelLowMoves asserted).line.state = s.line.state
      ∧ (s.labelLowMoves asserted).line.lastSender = s.line.lastSender
      ∧ (s.labelLowMoves asserted).line.lineErrors = s.line.lineErrors
      ∧ (s.labelLowMoves asserted).line.retry = s.line.retry
      ∧ (s.labelLowMoves asserted).line.collisions = s.line.collisions
      ∧ (s.labelLowMoves asserted).line.inFlight = s.line.inFlight
      ∧ (s.labelLowMoves asserted).line.trainPos = s.line.trainPos
      ∧ (s.labelLowMoves asserted).line.activity = s.line.activity
      ∧ (s.labelLowMoves asserted).line.restartSrc = s.line.restartSrc
      ∧ (s.labelLowMoves asserted).tx.request = s.tx.request
      ∧ (s.labelLowMoves asserted).tx.rejectReserved = s.tx.rejectReserved
      ∧ (s.labelLowMoves asserted).tx.pointer = s.tx.pointer ∧ (s.labelLowMoves asserted).ring = s.ring
      ∧ (s.labelLowMoves asserted).mon.last = s.mon.last ∧ (s.labelLowMoves asserted).mon.motions = s.mon.motions
      ∧ (s.labelLowMoves asserted).free = s.free ∧ (s.labelLowMoves asserted).pending = s.pending := by
  simp only [State.labelLowMoves]
  (repeat' split) <;> simp

@[simp] theorem State.mastMoves_frame (s : State) (up : Bool) :
    (s.mastMoves up).clock = s.clock ∧ (s.mastMoves up).image = s.image ∧ (s.mastMoves up).inp = s.inp
      ∧ (s.mastMoves up).out = s.out ∧ (s.mastMoves up).seq.zones = s.seq.zones
      ∧ (s.mastMoves up).track.exitSlot = s.track.exitSlot ∧ (s.mastMoves up).track.tagCounter = s.track.tagCounter
      ∧ (s.mastMoves up).track.issued = s.track.issued ∧ (s.mastMoves up).read = s.read
      ∧ (s.mastMoves up).cache = s.cache ∧ (s.mastMoves up).tracker = s.tracker ∧ (s.mastMoves up).bed = s.bed
      ∧ (s.mastMoves up).weigh = s.weigh ∧ (s.mastMoves up).label.txL = s.label.txL
      ∧ (s.mastMoves up).label.txR = s.label.txR ∧ (s.mastMoves up).view = s.view
      ∧ (s.mastMoves up).rel.stall = s.rel.stall ∧ (s.mastMoves up).line.state = s.line.state
      ∧ (s.mastMoves up).line.lastSender = s.line.lastSender ∧ (s.mastMoves up).line.lineErrors = s.line.lineErrors
      ∧ (s.mastMoves up).line.retry = s.line.retry ∧ (s.mastMoves up).line.collisions = s.line.collisions
      ∧ (s.mastMoves up).line.inFlight = s.line.inFlight ∧ (s.mastMoves up).line.trainPos = s.line.trainPos
      ∧ (s.mastMoves up).line.activity = s.line.activity ∧ (s.mastMoves up).line.restartSrc = s.line.restartSrc
      ∧ (s.mastMoves up).tx.request = s.tx.request ∧ (s.mastMoves up).tx.rejectReserved = s.tx.rejectReserved
      ∧ (s.mastMoves up).tx.pointer = s.tx.pointer ∧ (s.mastMoves up).ring = s.ring
      ∧ (s.mastMoves up).mon.last = s.mon.last ∧ (s.mastMoves up).mon.motions = s.mon.motions
      ∧ (s.mastMoves up).free = s.free ∧ (s.mastMoves up).pending = s.pending := by
  simp only [State.mastMoves]
  (repeat' split) <;> simp

@[simp] theorem State.tablePulse_frame (s : State) :
    (s.tablePulse).clock = s.clock ∧ (s.tablePulse).image = s.image ∧ (s.tablePulse).inp = s.inp
      ∧ (s.tablePulse).out = s.out ∧ (s.tablePulse).seq = s.seq ∧ (s.tablePulse).track = s.track
      ∧ (s.tablePulse).read = s.read ∧ (s.tablePulse).cache = s.cache ∧ (s.tablePulse).tracker = s.tracker
      ∧ (s.tablePulse).bed = s.bed ∧ (s.tablePulse).weigh = s.weigh ∧ (s.tablePulse).wrap.mast = s.wrap.mast
      ∧ (s.tablePulse).wrap.homed = s.wrap.homed ∧ (s.tablePulse).wrap.conveyor = s.wrap.conveyor
      ∧ (s.tablePulse).wrap.angleCapture = s.wrap.angleCapture ∧ (s.tablePulse).wrap.rev = s.wrap.rev
      ∧ (s.tablePulse).wrap.cls = s.wrap.cls ∧ (s.tablePulse).label = s.label ∧ (s.tablePulse).view = s.view
      ∧ (s.tablePulse).rel = s.rel ∧ (s.tablePulse).line = s.line ∧ (s.tablePulse).tx = s.tx
      ∧ (s.tablePulse).ring = s.ring ∧ (s.tablePulse).mon = s.mon ∧ (s.tablePulse).free = s.free
      ∧ (s.tablePulse).pending = s.pending := by simp [State.tablePulse]

@[simp] theorem State.conveyorMoves_frame (s : State) :
    (s.conveyorMoves).clock = s.clock ∧ (s.conveyorMoves).image = s.image ∧ (s.conveyorMoves).inp = s.inp
      ∧ (s.conveyorMoves).out = s.out ∧ (s.conveyorMoves).seq = s.seq
      ∧ (s.conveyorMoves).track.exitSlot = s.track.exitSlot
      ∧ (s.conveyorMoves).track.tagCounter = s.track.tagCounter ∧ (s.conveyorMoves).track.issued = s.track.issued
      ∧ (s.conveyorMoves).read = s.read ∧ (s.conveyorMoves).cache = s.cache ∧ (s.conveyorMoves).tracker = s.tracker
      ∧ (s.conveyorMoves).bed = s.bed ∧ (s.conveyorMoves).weigh = s.weigh
      ∧ (s.conveyorMoves).wrap.state = s.wrap.state ∧ (s.conveyorMoves).wrap.mast = s.wrap.mast
      ∧ (s.conveyorMoves).wrap.homed = s.wrap.homed ∧ (s.conveyorMoves).wrap.angleCapture = s.wrap.angleCapture
      ∧ (s.conveyorMoves).wrap.angle = s.wrap.angle ∧ (s.conveyorMoves).wrap.rev = s.wrap.rev
      ∧ (s.conveyorMoves).wrap.cls = s.wrap.cls ∧ (s.conveyorMoves).label.labelJob = s.label.labelJob
      ∧ (s.conveyorMoves).view = s.view ∧ (s.conveyorMoves).rel = s.rel ∧ (s.conveyorMoves).line = s.line
      ∧ (s.conveyorMoves).tx = s.tx ∧ (s.conveyorMoves).ring = s.ring ∧ (s.conveyorMoves).mon = s.mon
      ∧ (s.conveyorMoves).free = s.free ∧ (s.conveyorMoves).pending = s.pending := by simp [State.conveyorMoves]

@[simp] theorem State.acceptManifest_frame (s : State) (m : Manifest) :
    (s.acceptManifest m).clock = s.clock ∧ (s.acceptManifest m).image = s.image ∧ (s.acceptManifest m).inp = s.inp
      ∧ (s.acceptManifest m).out = s.out ∧ (s.acceptManifest m).seq.zones = s.seq.zones
      ∧ (s.acceptManifest m).track.exitSlot = s.track.exitSlot
      ∧ (s.acceptManifest m).track.tagCounter = s.track.tagCounter
      ∧ (s.acceptManifest m).track.issued = s.track.issued ∧ (s.acceptManifest m).read = s.read
      ∧ (s.acceptManifest m).bed = s.bed ∧ (s.acceptManifest m).weigh = s.weigh
      ∧ (s.acceptManifest m).label.txL = s.label.txL ∧ (s.acceptManifest m).label.txR = s.label.txR
      ∧ (s.acceptManifest m).view.skips = s.view.skips ∧ (s.acceptManifest m).rel.stall = s.rel.stall
      ∧ (s.acceptManifest m).line.state = s.line.state ∧ (s.acceptManifest m).line.lastSender = s.line.lastSender
      ∧ (s.acceptManifest m).line.lineErrors = s.line.lineErrors ∧ (s.acceptManifest m).line.retry = s.line.retry
      ∧ (s.acceptManifest m).line.collisions = s.line.collisions
      ∧ (s.acceptManifest m).line.inFlight = s.line.inFlight ∧ (s.acceptManifest m).line.trainPos = s.line.trainPos
      ∧ (s.acceptManifest m).line.activity = s.line.activity
      ∧ (s.acceptManifest m).line.restartSrc = s.line.restartSrc
      ∧ (s.acceptManifest m).tx.rejectReserved = s.tx.rejectReserved
      ∧ (s.acceptManifest m).tx.pointer = s.tx.pointer ∧ (s.acceptManifest m).ring = s.ring
      ∧ (s.acceptManifest m).mon.last = s.mon.last ∧ (s.acceptManifest m).mon.motions = s.mon.motions
      ∧ (s.acceptManifest m).free = s.free ∧ (s.acceptManifest m).pending = s.pending := by simp [State.acceptManifest]

/-! ## Notices, expiries and events -/

/-- What a received notice does: nothing while the own number is read back, ADDRESS_CLASH for the own number otherwise,
else the reception and, where the notice is allowed, the block's act (R129, R130). -/
theorem State.takeNotice_cases (s : State) (src : Station) (allowed : Bool) (f : State → State) :
    (src = s.own ∧ s.line.state = .send ∧ s.takeNotice src allowed f = s)
      ∨ (src = s.own ∧ s.line.state ≠ .send ∧ s.takeNotice src allowed f = (s.heard src).raise .addressClash none)
      ∨ (src ≠ s.own ∧ allowed = true ∧ s.takeNotice src allowed f = f (s.heard src))
      ∨ (src ≠ s.own ∧ allowed = false ∧ s.takeNotice src allowed f = s.heard src) := by
  unfold State.takeNotice
  by_cases h : src = s.own
  · by_cases g : s.line.state = .send <;> simp [h, g]
  · cases allowed <;> simp [h]

/-- A notice offered to this lane reaches its block (R130). -/
theorem State.takeNotice_offered (s : State) (src : Station) (f : State → State) (h : src ≠ s.own) :
    s.takeNotice src true f = f (s.heard src) := by
  simp [State.takeNotice, h]

/-- A reception sets the last sender (R129). -/
@[simp] theorem State.heard_lastSender (s : State) (src : Station) : (s.heard src).line.lastSender = src := rfl

/-- A reception changes the Dock Line Interface alone. -/
theorem State.heard_line (s : State) (src : Station) : ∃ l, s.heard src = { s with line := l } := by
  unfold State.heard State.activityEnds State.activityBegins
  split <;> exact ⟨_, rfl⟩

/-- A stopped timer's expiry does nothing (log 4). -/
@[simp] theorem State.onExpiry_none (s : State) (period : Nat) (f : State → State) : s.onExpiry none period f = s := rfl

/-- A running timer's expiry acts at the clock of the expiry (log 4). -/
@[simp] theorem State.onExpiry_some (s : State) (t : Ms) (period : Nat) (f : State → State) :
    s.onExpiry (some t) period f = f { s with clock := expiryClock s.clock t period } := rfl

/-- The expiry of a running motion acts at the clock of the expiry (log 4). -/
@[simp] theorem State.onMotionExpiry_running (s : State) (since : Ms) (period : Nat) (f : State → State) :
    s.onMotionExpiry (.running since) period f = f { s with clock := expiryClock s.clock since period } := rfl

/-- A motion that is idle, or abandoned with no expiry noted, has none. -/
@[simp] theorem State.onMotionExpiry_idle (s : State) (period : Nat) (f : State → State) :
    s.onMotionExpiry .idle period f = s := rfl

@[simp] theorem State.onMotionExpiry_abandoned (s : State) (period : Nat) (f : State → State) :
    s.onMotionExpiry (.abandoned none) period f = s := rfl

/-- A noted expiry is taken in its instant, and in no other (log 30). -/
@[simp] theorem State.onMotionExpiry_noted (s : State) (t : Ms) (period : Nat) (f : State → State) :
    s.onMotionExpiry (.abandoned (some t)) period f = if t = s.clock then f s else s := rfl

@[simp] theorem Motion.abandon_idle (now : Ms) (period : Nat) : Motion.idle.abandon now period = .idle := rfl

@[simp] theorem Motion.abandon_running (now since : Ms) (period : Nat) :
    (Motion.running since).abandon now period = .abandoned (notedAt now period (some since)) := rfl

@[simp] theorem Motion.abandon_abandoned (now : Ms) (period : Nat) (t : Option Ms) :
    (Motion.abandoned t).abandon now period = .abandoned t := rfl

@[simp] theorem Motion.taken_idle : Motion.idle.taken = .idle := rfl

@[simp] theorem Motion.taken_running (since : Ms) : (Motion.running since).taken = .running since := rfl

@[simp] theorem Motion.taken_abandoned (t : Option Ms) : (Motion.abandoned t).taken = .abandoned none := rfl

/-- Taking a motion's expiry neither starts nor stops it. -/
@[simp] theorem Motion.taken_isRunning (m : Motion) : m.taken.isRunning = m.isRunning := by cases m <;> rfl

/-- An abandoned motion does not run. -/
@[simp] theorem Motion.abandon_isRunning (now : Ms) (period : Nat) (m : Motion) :
    (m.abandon now period).isRunning = false := by cases m <;> rfl

/-- The instant noted is the present one, for a timer that has counted its period (log 30). -/
theorem notedAt_cases (now : Ms) (period : Nat) (timer : Option Ms) :
    (dueAt now period timer = true ∧ notedAt now period timer = some now)
      ∨ (dueAt now period timer = false ∧ notedAt now period timer = none) := by
  cases h : dueAt now period timer <;> simp [notedAt, h]

/-- Every transfer is abandoned or as it was, each by its own timer (R14, R21). -/
@[simp] theorem State.abandonMotions_transfer (s : State) (z : Fin 8) :
    s.abandonMotions.transfer z = (s.transfer z).abandon s.clock (tenths s.cfg.tTransfer) := by
  simp [State.abandonMotions, State.transfer]

@[simp] theorem State.abandonMotions_reject (s : State) :
    s.abandonMotions.seq.reject = s.seq.reject.abandon s.clock (tenths s.cfg.tTransfer) := rfl

@[simp] theorem State.abandonMotions_exit (s : State) :
    s.abandonMotions.seq.exit = s.seq.exit.abandon s.clock (tenths s.cfg.tExit) := rfl

/-! ## The frame of the bed link (R50) -/

@[simp] theorem BedLink.pass_fields (b : BedLink) (i : Fin 5) :
    (b.pass i).held = b.held ∧ (b.pass i).miss = b.miss ∧ (b.pass i).judged = b.judged ∧ (b.pass i).slot = i.succ
      ∧ (b.pass i).driven = b.driven := by simp [BedLink.pass]

@[simp] theorem BedLink.nextFrame_fields (b : BedLink) :
    b.nextFrame.held = b.held ∧ b.nextFrame.miss = b.miss ∧ b.nextFrame.judged = Vector.replicate 5 none
      ∧ b.nextFrame.slot = 0 ∧ b.nextFrame.driven = b.driven := by simp [BedLink.nextFrame]

@[simp] theorem BedLink.begin_fields (b : BedLink) :
    b.begin.held = b.held ∧ b.begin.miss = b.miss ∧ b.begin.judged = b.judged ∧ b.begin.slot = 0 ∧ b.begin.driven = true := by
  simp [BedLink.begin]

/-- A slot is in turn when the frame has come to it and it is enabled (R50, R53). -/
theorem State.slotDue_iff (s : State) (i : Fin 5) :
    s.slotDue i = true ↔ s.bed.slot.val = i.val ∧ (i = 4 → s.cfg.slot4 = true) := by
  have := i.isLt
  cases h : s.cfg.slot4 <;> simp [State.slotDue, State.slotsJudged, h, Fin.ext_iff] <;> omega

/-- A frame is ready to complete when all its slots are judged (R53, R54). -/
theorem State.frameReady_iff (s : State) : s.frameReady = true ↔ s.bed.slot.val = if s.cfg.slot4 = true then 5 else 4 := by
  simp [State.frameReady, State.slotsJudged]

/-- A slot out of its turn is not judged (log 17). -/
theorem State.slotJudged_outOfTurn (s : State) (i : Fin 5) (bits : BitVec 26) (h : s.slotDue i = false) :
    s.slotJudged i bits = s := by simp [State.slotJudged, h]

/-- A completion ends a frame whose slots are judged, and is none before (R54; log 17). -/
theorem State.frameComplete_cases (s : State) :
    (s.frameReady = true ∧ s.frameComplete = s.endFrame) ∨ (s.frameReady = false ∧ s.frameComplete = s) := by
  cases h : s.frameReady <;> simp [State.frameComplete, State.when, h]

/-- When a class finds a force high (R107). -/
theorem findsHigh_iff (c : WrapClass) (force : Int) : findsHigh c force = true ↔ c.highLevel ≠ 65535 ∧ c.highLevel < force := by
  simp [findsHigh]

/-- An event of a working lane is its own effect, the joins of a Stalled notice at the places it has freed, and the starts
that end it. -/
theorem State.event_working (s : State) (f : State → State) (h : s.working = true) :
    s.event f = (s.joinFreed (f s)).finish := by
  simp [State.event, h]

/-- What the joins at freed places can do (R137; log 33): nothing, unless places have been freed, a start waits for them
and a Stalled notice of this instant is there; then the notice joins first, or between the starts, or after them, or not
with them. -/
theorem State.joinFreed_cases (before s : State) :
    before.joinFreed s = s
      ∨ (before.seqFree < s.seqFree ∧ s.placeWanted = true ∧ (s.unplacedNow.isSome || s.stallsNow) = true
        ∧ (before.joinFreed s = { s with free := s.free + 1 }.joinStalled
          ∨ before.joinFreed s = { s with free := s.free + 1 }.tryReject.joinStalled
          ∨ before.joinFreed s = { s with free := s.free + 1 }.tryClaim.joinStalled
          ∨ before.joinFreed s = { s with free := s.free + 1 }.tryJoins.joinStalled
          ∨ before.joinFreed s = { s with free := s.free + 1 })) := by
  by_cases h : before.seqFree < s.seqFree ∧ s.placeWanted = true ∧ (s.unplacedNow.isSome || s.stallsNow) = true
  · refine .inr ⟨h.1, h.2.1, h.2.2, ?_⟩
    simp only [State.joinFreed, if_pos h]
    split <;> simp
  · exact .inl (by simp only [State.joinFreed, if_neg h])

/-- An event that frees no place of the Sequence queue takes no such joins. -/
theorem State.joinFreed_of_le {before s : State} (h : s.seqFree ≤ before.seqFree) : before.joinFreed s = s := by
  simp [State.joinFreed, Nat.not_lt.mpr h]

/-- Nor does an event of a lane that is not RUNNING, where no start waits (R17, R155). -/
theorem State.joinFreed_of_not_running {before s : State} (h : s.running = false) : before.joinFreed s = s := by
  simp [State.joinFreed, State.placeWanted, State.rejectWaits, State.claimWaits, h]

/-- Nor does one whose instant has no Stalled notice to place (R163). -/
theorem State.joinFreed_of_no_stalled {before s : State} (h : s.unplacedNow = none) (h' : s.stallsNow = false) :
    before.joinFreed s = s := by simp [State.joinFreed, h, h']

/-- An event whose effect frees no place of the Sequence queue is that effect and the starts that end it. -/
theorem State.event_of_le (s : State) (f : State → State) (h : s.working = true) (hf : (f s).seqFree ≤ s.seqFree) :
    s.event f = (f s).finish := by rw [State.event_working s f h, State.joinFreed_of_le hf]

/-- In CONFIG and UNCONFIGURED an event does nothing (R8). -/
theorem State.event_idle (s : State) (f : State → State) (h : s.working = false) : s.event f = s := by
  simp [State.event, h]

/-- A conditional start. -/
theorem State.when_cases (s : State) (c : Bool) (f : State → State) :
    (c = true ∧ s.when c f = f s) ∨ (c = false ∧ s.when c f = s) := by
  cases c <;> simp [State.when]

/-- What every step of a pass keeps, the pass keeps. -/
theorem foldl_keeps {α β γ : Type} (f : β → α → β) (g : β → γ) (h : ∀ b a, g (f b a) = g b) :
    ∀ (l : List α) (b : β), g (l.foldl f b) = g b := by
  intro l
  induction l with
  | nil => intro b; rfl
  | cons a l ih => intro b; rw [List.foldl_cons, ih, h]

/-- What holds before a pass and is kept by every step of it, holds after it. -/
theorem foldl_invariant {α β : Type} (f : β → α → β) (P : β → Prop) (h : ∀ b a, P b → P (f b a)) :
    ∀ (l : List α) (b : β), P b → P (l.foldl f b) := by
  intro l
  induction l with
  | nil => intro b hb; exact hb
  | cons a l ih => intro b hb; exact ih _ (h b a hb)

/-- Every command answers a next state. -/
theorem exec_answers_next (c : Instr) (s : State) : ∃ t, exec c s = .next t := by
  cases c <;> exact ⟨_, rfl⟩

/-- The next state of a command (Tick). -/
theorem exec_after (c : Instr) (s : State) : exec c s = .next (s.after c) := by
  obtain ⟨t, h⟩ := exec_answers_next c s
  simp [State.after, h]

/-! ## Receptions that change the line alone (R128 to R130) -/

/-- A notice taken whole changes no part but the line (R129). -/
theorem State.heard_eq_received (s : State) (src : Station) : s.heard src = Safety.received s src s.line.lineErrors := by
  simp only [Safety.received, State.heard, State.activityBegins]
  split <;> rfl

/-- So does one whose content is then refused, with one line error (R33, R169). -/
theorem State.heard_countLineError (s : State) (src : Station) :
    (s.heard src).countLineError = Safety.received s src (min 65535 (s.line.lineErrors + 1)) := by
  rw [State.heard_eq_received]; simp [State.countLineError, Safety.received, satSucc]; split <;> omega

/-! ## The stall timer and the turntable (R88) -/

/-- The stall timer's form hangs on the turntable, the timer and the noted expiry alone. -/
theorem stallFits_of_eq {s t : State} (h : Safety.stallFits s) (h1 : t.wrap.turntable = s.wrap.turntable)
    (h2 : t.wrap.stall = s.wrap.stall) (h3 : t.wrap.stallDue = s.wrap.stallDue) : Safety.stallFits t := by
  simpa [Safety.stallFits, h1, h2, h3] using h

theorem State.enterCut_stallFits (s : State) : Safety.stallFits s.enterCut := by simp [Safety.stallFits, State.enterCut]

theorem State.enterPark_stallFits {s : State} (h : Safety.stallFits s) : Safety.stallFits s.enterPark := by
  simp only [State.enterPark]
  split
  · exact State.enterCut_stallFits _
  · exact stallFits_of_eq h rfl rfl rfl

theorem State.endTop_stallFits {s : State} (h : Safety.stallFits s) : Safety.stallFits s.endTop := by
  simp only [State.endTop, State.enterDescend]
  (repeat' split) <;> first | exact State.enterPark_stallFits h | exact stallFits_of_eq h rfl rfl rfl

theorem State.endRise_stallFits {s : State} (h : Safety.stallFits s) : Safety.stallFits s.endRise := by
  simp only [State.endRise, State.judgeTop]
  have h' := stallFits_of_eq (t := s.updPallet zTable (heightVerdict s.cfg s.wrap.capture)) h (by simp) (by simp) (by simp)
  split
  · exact State.endTop_stallFits (stallFits_of_eq h' rfl rfl rfl)
  · exact stallFits_of_eq h' rfl rfl rfl

theorem State.judgeBottom_stallFits {s : State} (h : Safety.stallFits s) : Safety.stallFits s.judgeBottom := by
  simp only [State.judgeBottom, State.enterRise]
  (repeat' split) <;> first | exact State.endRise_stallFits (stallFits_of_eq h rfl rfl rfl) | exact stallFits_of_eq h rfl rfl rfl

/-- A wrap start keeps the stall timer's form, whatever an earlier abort left noted (R88, R96; log 30). -/
theorem State.enterStart_stallFits (s : State) (cls : Fin 4) : Safety.stallFits (s.enterStart cls) := by
  have h : Safety.stallFits { s with wrap := { s.wrap with turntable := true, stall := some s.clock, stallDue := none } } := by
    simp [Safety.stallFits]
  simp only [State.enterStart, State.enterBottom]
  split
  · exact State.judgeBottom_stallFits (stallFits_of_eq h rfl rfl rfl)
  · exact stallFits_of_eq h rfl rfl rfl

end Sys2Proof.Machine
end

