-- ==== Sys2Proof/Tests/Slice0.lean ====
section
/-! SUPPORT. Small tests from the spec's worked examples and tables, the smoke test of each well-formedness check, and
for each statement with hypotheses a concrete state and operands that meet them. -/

namespace Sys2Proof.Tests

set_option Elab.async false

open Machine Safety

/-! ## Well-formedness: each check refuses an ill-formed command -/

theorem test_wf_short_block : (Instr.configBlockRead [1, 2, 3]).wellFormed = false := by decide
theorem test_wf_assigned_code : (Instr.laneCommandUnassigned 4 15 3).wellFormed = false := by decide
theorem test_wf_unassigned_code : (Instr.laneCommandUnassigned 4 15 7).wellFormed = true := by decide
theorem test_wf_assigned_subject : (Instr.statusRequestInvalid 4 15 5 0).wellFormed = false := by decide
theorem test_wf_taken_kind : (Instr.peerNoticeIgnored 4 15 3).wellFormed = false := by decide
theorem test_wf_ignored_kind : (Instr.peerNoticeIgnored 4 15 6).wellFormed = true := by decide
theorem test_wf_whole_notice_is_not_discarded :
    (Instr.noticeDiscarded (stuff (bytesBits (content 4 8 15 (beBytes 2 215))))).wellFormed = false := by decide +kernel
theorem test_wf_discarded : (Instr.noticeDiscarded [true, false]).wellFormed = true := by decide +kernel

/-! ## States to test on -/

/-- A small configuration: station 3, with the overview's W code 0. -/
def img : Image := { Image.blank with
  station := 3, recordAddr := 12, slot4 := true, retries := 2, gains := ⟨40000, 40000, 40000, 40000⟩
  span := 200, zeroLimit := 2000, tare := #v[25000, 25000, 25000, 25000], minGross := 50000, latLimit := 300
  longLimit := 300, mu := 250, deckOffset := 140, mastMax := 8800, bottomTarget := 200, countsPerRev := 4000
  parkAngle := 1000, forceGain := 65535, applyOffset := 1000, cutTime := 30, tRead := 20, tManifest := 50
  tTransfer := 200, tExit := 60, tSettle := 30, tPrint := 50, tApply := 20, tClaim := 12, tWait := 10
  tolerance := Vector.replicate 16 ⟨2000, 10⟩, classes := Vector.replicate 4 ⟨3, 2, true, 100, 40, 220⟩ }

/-- A lane at work in a lane state, with the image and nothing on it. -/
def lane (l : LaneState) : State :=
  { State.reset with
    image := some img, mon := { State.reset.mon with lane := l }, bed := { State.reset.bed with driven := true } }

/-- The manifest of pallet 2 of load 215. -/
def man : Manifest := { blankManifest with
  ident := 77, load := 215, seq := 2, total := 8, issueNext := 1, cases := 110, unitMass := 8036, bandMin := 140
  bandMax := 160, serial := 5 }

/-- An identified record in a zone. -/
def pal (z : Fin 9) : PalletRecord := { PalletRecord.fresh 7 z 0 false with ident := some 77, manifest := some man }

/-- A running lane with the record in a zone of the state given. -/
def withPallet (z : Fin 9) (v : ZoneState) : State := ((lane .running).setPallet z (some (pal z))).setZone z v

/-- A running lane with the record at FRONT in a stage and a load entry with the next given. -/
def atFront (st : Stage) (next : Nat) : State :=
  { (((lane .running).setPallet zFront (some { pal zFront with stage := st })).setZone zFront .ready) with
    view := ⟨[⟨215, next, 8, none, 1, false⟩], 0⟩ }

/-- The frame in progress with the slots before `n` judged. -/
def atSlot (s : State) (n : Fin 6) : State := { s with bed := { s.bed with slot := n } }

/-- The line in SEND with the head of a source in flight. -/
def sending (s : State) (src : Source) : State := { s with line := { s.line with state := .send, inFlight := some src } }

/-- The wrap state and the TABLE record of a wrap that runs. -/
def wrapping (w : WrapState) : State :=
  let s := withPallet zTable .occupied
  { s with wrap := { s.wrap with state := w, homed := true, turntable := w.turning, filmClamp := w.turning } }

/-- A label job of the TABLE record in a phase. -/
def labelling (ph : JobPhase) (side : SideState) : State :=
  (withPallet zTable .ready).setTableJob (some ⟨7, ph, side, side, none, some 0, some 0, false⟩)

/-- The transfers from zones 2 and 4 both run since the clock's 0. -/
def twoTransfers : State :=
  (((((lane .running).setPallet 2 (some (pal 2))).setPallet 4 (some (pal 4))).setTransfer 2 (.running 0)).setTransfer 4 (.running 0))

/-- A stopped lane whose ring is full, with a source in flight. -/
def fullRing (src : Option Source) : State :=
  let s := lane .stopped
  { s with
    ring := ⟨(dispatchRecord (pal zBed) .rejected 1) :: List.replicate 31 (dispatchRecord (pal zIn) .released 0), 0⟩
    line := { s.line with inFlight := src } }

/-! ## Worked examples of the spec -/

-- R75's table of case deviations for a unit mass of 10,540 g
theorem test_case_deviation_table : caseDeviation 5269 10540 = 0 ∧ caseDeviation (-5269) 10540 = 0
    ∧ caseDeviation 5270 10540 = 1 ∧ caseDeviation (-5270) 10540 = -1 := by decide
-- R58: with a gain of 40,000 a difference of -1 calibrates to -1 g and one of +1 to 0 g
theorem test_calibrate_floors : calibrate (-1) 0 40000 = -1 ∧ calibrate 1 0 40000 = 0 := by decide
-- R36's table: way 2 written
theorem test_point_away : (CacheSet.startUp.pointAway 2).b0 = false ∧ (CacheSet.startUp.pointAway 2).b2 = true := by decide
-- R131: the wait after the own number is 15 slots, after the number just below it 1 slot
theorem test_access_slots : accessSlots 3 3 = 15 ∧ accessSlots 3 2 = 1 := by decide
-- R195: a run of five equal levels takes one stuff bit of the other level
theorem test_stuff_five : stuff [true, true, true, true, true, true] = [true, true, true, true, true, false, true] := by
  decide
-- R11 and R2: a transfer starts, and both drives run
theorem test_transfer_starts : ((withPallet zIn .ready).after (.transferStart 0)).zone zBed = .arriving := by decide +kernel
theorem test_transfer_drives :
    ((withPallet zIn .ready).after (.transferStart 0)).out.zoneDrive[1] = true := by decide +kernel
-- R12: the record moves on at the target eye's edge
theorem test_transfer_completes :
    ((((withPallet zIn .departing).setTransfer 0 (.running 0)).after (.transferComplete 0)).pallet zBed).isSome = true := by
  decide +kernel
-- R178 and R175: ESTOP takes a running lane to FAULT
theorem test_estop : ((lane .running).after (.estopInput true)).mon.lane = .fault := by decide +kernel
-- R170: START from STOPPED; R92: the unhomed mast is homed
theorem test_start : ((lane .stopped).after (.start 12 15)).wrap.state = .homing := by decide +kernel
-- R169: START is refused in RUNNING
theorem test_start_refused :
    ((lane .running).after (.start 12 15)).mon.last = some ⟨.start, .refusedState, some 12, 0⟩ := by decide +kernel
-- R155: the FRONT record's Claim is queued when its sequence is next
theorem test_claim_queued : ((atFront .waiting 2).after (.claimQueue true)).frontStage = some .claimQueued := by
  decide +kernel
-- R147, R153: a Claim above next raises it and counts a view skip
theorem test_claim_skips : ((atFront .waiting 1).after (.claim 5 15 215 3 false 0)).view.skips = 1 := by decide +kernel
-- R148: a Released for sequence k raises next to k + 1
theorem test_released : (((atFront .waiting 1).after (.released 5 15 215 1)).nextOf 215) = some 2 := by decide +kernel
-- R132, R133: a collision sends station 3 into a backoff of 19 slots
theorem test_collision : ((sending (atFront .waiting 1) .sequence).after .collision).line.waitSlots = 19 := by
  decide +kernel
-- R89: a step down from 0 leaves the counter and takes the homed flag
theorem test_mast_lost : ((wrapping .start).after (.mastStep false)).wrap.homed = false := by decide +kernel
-- R26: a lane restart finds an orphan under a blocked eye
theorem test_restart_orphan :
    ((((lane .stopped).setEye (.zone 3) true).after (.restart (.push true))).pallet 3).map (·.orphan) = some true := by
  decide +kernel
-- 9.8, R13 and R174: of two transfers whose T_transfer ends in one instant, both JAMs are listed, in zone order
theorem test_two_jams :
    ((({ twoTransfers with clock := 20000 } : State).expire (.transferTimeout 2)).expire (.transferTimeout 4)).mon.faults.map
      (fun e => (e.kind, e.zone)) = [(FaultKind.jam, some 3), (FaultKind.jam, some 5)] := by decide +kernel
-- R50 and R193: the bed link is not driven at start-up
theorem test_link_off_in_config : State.reset.bed.driven = false := rfl
-- R107: a class with the high level 65535 never finds a high force
theorem test_high_level_off : findsHigh ⟨3, 2, true, 100, 40, 65535⟩ 100000 = false := by decide
-- R184: a full ring gives up its oldest record, but not one in flight
theorem test_ring_full :
    ((fullRing none).appendRecord (dispatchRecord (pal zIn) .purged 0)).ring.lost = 1
    ∧ ((fullRing (some .ring)).appendRecord (dispatchRecord (pal zIn) .purged 0)).ring.records.head?
        = (fullRing none).ring.records.head? := by
  decide +kernel
-- R193: nothing is decoded from bits, and the first command after start-up is the configuration's
theorem test_no_words : decodeTableWord 8 0 = none := rfl

/-! ## Witnesses: a state and operands that meet the hypotheses of each statement -/

/-- The checks that recordsFit makes, as a decidable one. -/
def recordsCheck (s : State) : Bool :=
  allZones.all (fun z =>
    match s.pallet z with
    | some p => p.zone == z.castSucc && (z == zFront || p.stage == .waiting)
    | none => true)
  && (match s.track.exitSlot with
      | some p => p.zone == 9 && p.stage == .exited
      | none => true)

theorem recordsFit_of_check (s : State) (h : recordsCheck s = true) : recordsFit s := by
  unfold recordsCheck at h
  simp only [Bool.and_eq_true, List.all_eq_true] at h
  have all : ∀ z : Fin 9, z ∈ allZones := by decide
  refine ⟨fun z p hp => ?_, fun p hp => ?_⟩
  · have hz := h.1 z (all z)
    rw [hp] at hz
    simp only [Bool.and_eq_true, Bool.or_eq_true, beq_iff_eq] at hz
    exact ⟨hz.1, fun hne => hz.2.resolve_left hne⟩
  · have hx := h.2
    rw [hp] at hx
    simpa using hx

theorem witness_StepRunsFrontCommand : ∃ (s : State) (c : Instr) (rest : List Instr), s.pending = c :: rest :=
  ⟨{ lane .running with pending := [.gapEnd] }, .gapEnd, [], rfl⟩
theorem witness_IdleStepTicks_held : ∃ s : State, s.pending = [] ∧ s.inp.resetPin = true :=
  ⟨(State.reset).startUp true, by decide +kernel⟩
theorem witness_IdleStepTicks_none :
    ∃ s : State, s.pending = [] ∧ s.inp.resetPin = false ∧ { s with clock := s.clock + 1 }.dueCommands = [] :=
  ⟨lane .running, by decide +kernel⟩
theorem witness_IdleStepTicks_one : ∃ (s : State) (i : Instr), s.pending = [] ∧ s.inp.resetPin = false
    ∧ { s with clock := s.clock + 1 }.dueCommands = [i] :=
  ⟨{ lane .running with read := ⟨some 7, some 0⟩, clock := 1999 }, .tagReadTimeout, by decide +kernel⟩
theorem witness_NoStartLeftWaiting : ∃ (c : Instr) (s t : State), exec c s = .next t ∧ t.working = true :=
  ⟨.gapEnd, lane .running, _, rfl, by decide +kernel⟩
theorem witness_outputs_follow : ∃ s t : State, outputsFollow s ∧ wrapOutputsFit s ∧ stallFits s
    ∧ step s = .next t :=
  ⟨lane .running, _, by unfold outputsFollow; decide +kernel, by unfold wrapOutputsFit; decide +kernel,
    by unfold stallFits; decide +kernel, rfl⟩
theorem witness_lists_fit : ∃ s t : State, faultListFits s ∧ queuesFit s ∧ queuesHold s ∧ step s = .next t :=
  ⟨lane .running, _, by unfold faultListFits; decide +kernel, by unfold queuesFit; decide +kernel,
    by unfold queuesHold; decide +kernel, rfl⟩
theorem witness_viewFits : ∃ s t : State, viewFits s ∧ step s = .next t :=
  ⟨atFront .waiting 2, _, by unfold viewFits; decide +kernel, rfl⟩
theorem witness_windowFits : ∃ s t : State, windowFits s ∧ step s = .next t :=
  ⟨(lane .running).acceptSet, _, by unfold windowFits; decide +kernel, rfl⟩
theorem witness_cacheFits : ∃ s t : State, cacheFits s ∧ step s = .next t :=
  ⟨(lane .running).storeManifest man, _, by unfold cacheFits; decide +kernel, rfl⟩
theorem witness_recordsFit : ∃ s t : State, recordsFit s ∧ step s = .next t :=
  ⟨atFront .claimWon 2, _, recordsFit_of_check _ (by decide +kernel), rfl⟩
theorem witness_NextNeverDecreases : ∃ (c : Instr) (s t : State) (load : BitVec 16) (e e' : LoadEntry), viewFits s
    ∧ exec c s = .next t ∧ s.loadEntry load = some e ∧ t.loadEntry load = some e' :=
  ⟨.claim 5 15 215 3 false 0, atFront .waiting 1, _, 215, ⟨215, 1, 8, none, 1, false⟩, ⟨215, 3, 8, some ⟨5, 3, 0⟩, 1, false⟩,
    by unfold viewFits; decide +kernel, rfl, by decide +kernel, by decide +kernel⟩
theorem witness_FrameOfCommands : ∃ (c : Instr) (s t : State),
    (s.line.marked = true → s.line.inFlight = some .sequence ∨ s.line.inFlight = some .request) ∧ exec c s = .next t ∧ startsUp c = false ∧ isExpiry c = false
    ∧ movesPin c = false ∧ movesView c = false ∧ removesRecord c = false ∧ completesReleased c = false
    ∧ isLaneCommand c = false ∧ movesMast c = false ∧ createsRecord c = false ∧ completesOwn c = false :=
  ⟨.gapEnd, lane .running, _, by decide +kernel, rfl, by decide⟩
theorem witness_MotionsBeginOnlyInRunning : ∃ (c : Instr) (s t : State), exec c s = .next t ∧ motionBegins s t :=
  ⟨.transferStart 0, withPallet zIn .ready, _, rfl, .inl ⟨0, by decide +kernel⟩⟩
theorem witness_FaultStopsEverything : ∃ (c : Instr) (s t : State), wrapOutputsFit s ∧ live s ∧ exec c s = .next t
    ∧ t.mon.lane = .fault :=
  ⟨.estopInput true, lane .running, _, by unfold wrapOutputsFit; decide +kernel, .inr (.inl rfl), rfl, by decide +kernel⟩

/-- The station sends the queued Claim of its FRONT record. -/
def claiming : State :=
  let s := sending (atFront .claimQueued 2) .sequence
  { s with tx := { s.tx with sequence := [.claim 215 2 false 77] }, rel := ⟨true, false, none⟩ }

theorem witness_ClaimWon : ∃ (c : Instr) (s t : State), recordsFit s ∧ queuesHold s ∧ exec c s = .next t ∧ s.frontStage ≠ some .claimWon
    ∧ t.frontStage = some .claimWon :=
  ⟨.ownNoticeComplete, claiming, _, recordsFit_of_check _ (by decide +kernel), by unfold queuesHold; decide +kernel, rfl, by decide +kernel, by decide +kernel⟩
theorem witness_ExitBegins : ∃ (c : Instr) (s t : State), recordsFit s ∧ queuesHold s ∧ exec c s = .next t ∧ s.seq.exit = .idle
    ∧ t.seq.exit.isRunning = true :=
  ⟨.exitStart true, atFront .claimWon 2, _, recordsFit_of_check _ (by decide +kernel), by unfold queuesHold; decide +kernel, rfl, by decide +kernel, by decide +kernel⟩

/-! ### Configuration, lamp, zones -/

/-- A block of zeros with the station 3 and the sum that agrees. -/
def goodBlock : List Byte := 3 :: List.replicate 253 0 ++ [0, 3]

theorem witness_ConfigurationJudged_accepted : ∃ (s : State) (b : List Byte) (st : Station), s.mon.lane = .config
    ∧ s.inp.resetPin = false ∧ b.length = 256 ∧ byteTotal (b.take 254) % 65536 = beAt b 254 2 ∧ beAt b 0 1 % 16 = st.val
    ∧ s.mon.faults = [] ∧ s.inp.estop = true ∧ s.inp.filmLow = true ∧ s.inp.labelLowL = true :=
  ⟨{ State.reset with inp := { Inputs.startUp with estop := true, filmLow := true, labelLowL := true } }, goodBlock, 3,
    by decide +kernel⟩
theorem witness_ConfigurationJudged_rejected : ∃ (s : State) (b : List Byte), s.mon.lane = .config
    ∧ s.inp.resetPin = false ∧ b.length = 256
    ∧ (byteTotal (b.take 254) % 65536 ≠ beAt b 254 2 ∨ beAt b 0 1 % 16 = 15) :=
  ⟨State.reset, 3 :: List.replicate 255 0, by decide +kernel⟩
theorem witness_ImageWithinRange : ∃ (b : List Byte) (c : Image), loadConfig b = some c ∧ b.length = 256 :=
  ⟨goodBlock, imageOf (wholeBlock goodBlock) 3, by decide +kernel⟩
theorem witness_LampPhases : ∃ (s : State) (since : Ms) (p : Nat), s.mon.lampSince = some since
    ∧ (s.mon.lane, s.mon.lamp, p) ∈ [(LaneState.unconfigured, true, 125), (.unconfigured, false, 125), (.stopped, true, 250),
      (.stopped, false, 1750), (.stopping, true, 500), (.stopping, false, 500), (.fault, true, 250), (.fault, false, 250)] :=
  ⟨(lane .running).setLane .stopped, 0, 250, by decide +kernel⟩
theorem witness_LampPhases_entry : ∃ (c : Instr) (s t : State), exec c s = .next t ∧ t.mon.lane ≠ s.mon.lane
    ∧ t.mon.lane ≠ .config :=
  ⟨.estopInput true, lane .running, _, rfl, by decide +kernel, by decide +kernel⟩
theorem witness_LampPhases_kept : ∃ (c : Instr) (s t : State), exec c s = .next t ∧ t.mon.lane = s.mon.lane
    ∧ c ≠ .laneLampPhase ∧ startsUp c = false ∧ (s.mon.lane = .running → s.mon.lamp = true) :=
  ⟨.gapEnd, (lane .stopped).setLane .running, _, rfl, by decide +kernel, by decide, rfl, by decide +kernel⟩
theorem witness_EyeEdges_arrival : ∃ s : State, s.working = true ∧ s.zone zIn = .empty ∧ s.eye zIn = false :=
  ⟨lane .running, by decide +kernel⟩
theorem witness_EyeEdges_same : ∃ (s : State) (e : Eye) (b : Bool), s.working = true ∧ s.eyeLevel e = b :=
  ⟨lane .running, .exit, false, by decide +kernel⟩
theorem witness_EyeEdges_zone : ∃ (s : State) (z : Fin 9), s.working = true ∧ s.eyeLevel (.zone z) ≠ true
    ∧ (z = zIn → s.zone zIn ≠ .empty) ∧ ∀ y : Fin 8, z = dstZone y → (s.transfer y).isRunning = false :=
  ⟨lane .running, 8, by decide +kernel⟩
theorem witness_EyeEdges_ends : ∃ s : State, s.working = true ∧ s.eyeLevel .reject ≠ true ∧ s.seq.reject.isRunning = false
    ∧ (s.setEye .exit true).eyeLevel .exit ≠ false ∧ s.seq.exit = .idle :=
  ⟨lane .running, by decide +kernel⟩
theorem witness_TransferStarts : ∃ (s : State) (z : Fin 8), s.mon.lane = .running ∧ s.zone (srcZone z) = .ready
    ∧ s.zone (dstZone z) = .empty ∧ s.eye (dstZone z) = false ∧ z = 2 ∧ s.rollersAllowed = true ∧ s.consents = true :=
  ⟨labelling .consented .ready, 2, by decide +kernel⟩
theorem witness_TransferStarts_divert : ∃ (s : State) (z : Fin 8) (p : PalletRecord), s.mon.lane = .running
    ∧ s.zone (srcZone z) = .ready ∧ s.zone (dstZone z) = .empty ∧ s.eye (dstZone z) = false ∧ z = 4
    ∧ s.pallet zDivert = some p ∧ p.reasons = 0 :=
  ⟨withPallet zDivert .ready, 4, pal zDivert, by decide +kernel⟩
theorem witness_TransferCompletes : ∃ (s : State) (z : Fin 8) (p : PalletRecord) (since : Ms), s.working = true
    ∧ s.transfer z = .running since ∧ s.eye (dstZone z) = false ∧ s.pallet (srcZone z) = some p :=
  ⟨(withPallet zIn .departing).setTransfer 0 (.running 5), 0, pal zIn, 5, by decide +kernel⟩
theorem witness_TransferCompletes_overlength : ∃ (s : State) (z : Fin 8) (p : PalletRecord) (since : Ms), live s
    ∧ s.transfer z = .running since ∧ s.eye (dstZone z) = false ∧ s.pallet (srcZone z) = some p
    ∧ s.eye (srcZone z) = true ∧ s.mon.faults.length ≤ 6 :=
  ⟨((withPallet zIn .departing).setTransfer 0 (.running 5)).setEye (.zone 0) true, 0, pal zIn, 5, .inr (.inl rfl),
    by decide +kernel⟩
theorem witness_MotionTimeouts_transfer : ∃ (s : State) (z : Fin 8) (since : Ms), live s ∧ s.transfer z = .running since
    ∧ room s ∧ unlisted s .jam (some ((dstZone z).castLE (by decide))) :=
  ⟨(withPallet zIn .departing).setTransfer 0 (.running 5), 0, 5, .inr (.inl rfl), by decide +kernel, by unfold room; decide +kernel,
    by unfold unlisted; decide +kernel⟩
theorem witness_MotionTimeouts_reject : ∃ (s : State) (since : Ms), live s ∧ s.seq.reject = .running since ∧ room s
    ∧ unlisted s .jam (some 10) :=
  ⟨(withPallet zDivert .ready).startReject true, 0, .inr (.inl rfl), by decide +kernel, by unfold room; decide +kernel,
    by unfold unlisted; decide +kernel⟩
theorem witness_MotionTimeouts_exit : ∃ (s : State) (since : Ms), live s ∧ s.seq.exit = .running since ∧ room s
    ∧ unlisted s .exitTimeout (some 9) ∧ s.frontStage = some .exiting :=
  ⟨(atFront .claimWon 2).startExit, 0, .inr (.inl rfl), by decide +kernel, by unfold room; decide +kernel,
    by unfold unlisted; decide +kernel, by decide +kernel⟩
theorem witness_MotionTimeouts_stall : ∃ (s : State) (p : PalletRecord) (since : Ms), live s ∧ s.wrap.stall = some since
    ∧ s.wrap.stallDue ≠ some s.clock ∧ s.wrap.state.inProgress = true ∧ room s ∧ s.pallet zTable = some p ∧ s.zone zTable = .occupied :=
  ⟨{ wrapping .bottom with wrap := { (wrapping .bottom).wrap with stall := some 4 } }, pal zTable, 4, .inr (.inl rfl), by decide +kernel, by decide +kernel,
    by decide +kernel,
    by unfold room; decide +kernel, by decide +kernel⟩
theorem witness_MotionTimeouts_others : ∃ (s : State) (y z : Fin 8) (since since' : Ms), live s ∧ s.transfer z = .running since
    ∧ y ≠ z ∧ s.transfer y = .running since' ∧ room s :=
  ⟨twoTransfers, 4, 2, 0, 0, .inr (.inl rfl), by decide +kernel, by decide, by decide +kernel, by unfold room; decide +kernel⟩
theorem witness_MotionTimeouts_noted : ∃ s : State, s.mon.lane = .fault ∧ room s ∧ unlisted s .jam (some 5)
    ∧ unlisted s .jam (some 10) ∧ unlisted s .exitTimeout (some 9) ∧ unlisted s .turntableStall (some 2)
    ∧ s.transfer 4 = .abandoned (some s.clock) ∧ s.seq.reject = .abandoned (some s.clock)
    ∧ s.seq.exit = .abandoned (some s.clock) ∧ s.wrap.stallDue = some s.clock :=
  ⟨{ ((lane .fault).setTransfer 4 (.abandoned (some 0))) with
      seq := { ((lane .fault).setTransfer 4 (.abandoned (some 0))).seq with reject := .abandoned (some 0), exit := .abandoned (some 0) }
      wrap := { State.reset.wrap with stallDue := some 0 } },
    by decide +kernel, by unfold room; decide +kernel, by unfold unlisted; decide +kernel, by unfold unlisted; decide +kernel,
    by unfold unlisted; decide +kernel, by unfold unlisted; decide +kernel, by decide +kernel⟩
theorem witness_MotionTimeouts_two : ∃ (s : State) (y z : Fin 8) (a b : Ms), s.pending = [] ∧ s.inp.resetPin = false ∧ live s
    ∧ y < z ∧ s.transfer y = .running a ∧ s.transfer z = .running b
    ∧ { s with clock := s.clock + 1 }.dueCommands = [.transferTimeout y, .transferTimeout z] ∧ s.mon.faults.length ≤ 6 :=
  ⟨{ twoTransfers with clock := 19999 }, 2, 4, 0, 0, rfl, by decide +kernel, .inr (.inl rfl), by decide, by decide +kernel,
    by decide +kernel, by decide +kernel, by decide +kernel⟩
theorem witness_RejectTransfer_starts : ∃ (s : State) (p : PalletRecord), s.mon.lane = .running ∧ s.zone zDivert = .ready
    ∧ s.inp.rejectEye = false ∧ s.pallet zDivert = some p ∧ p.reasons ≠ 0 ∧ p.manifest ≠ none ∧ 0 < s.seqFree :=
  ⟨(withPallet zDivert .ready).addReason zDivert .voided, (pal zDivert).addReason .voided, by decide +kernel⟩
theorem witness_RejectTransfer_reserved : ∃ (s : State) (p : PalletRecord), s.mon.lane = .running ∧ s.zone zDivert = .ready
    ∧ s.inp.rejectEye = false ∧ s.pallet zDivert = some p ∧ p.reasons ≠ 0 ∧ p.manifest ≠ none ∧ s.tx.rejectReserved = true
    ∧ s.seqFree = 0 :=
  ⟨{ (withPallet zDivert .ready).addReason zDivert .voided with
      tx := { State.reset.tx with sequence := List.replicate 7 (.released 215 1), rejectReserved := true } },
    (pal zDivert).addReason .voided, by decide +kernel⟩
theorem witness_RejectTransfer_completes : ∃ (s : State) (p : PalletRecord) (since : Ms), s.working = true
    ∧ s.seq.reject = .running since ∧ s.inp.rejectEye = false ∧ s.pallet zDivert = some p ∧ s.ring.records.length < 32
    ∧ p.manifest = some man ∧ s.tx.rejectReserved = true ∧ s.loadEntry man.load = none :=
  ⟨((withPallet zDivert .ready).addReason zDivert .voided).startReject true, (pal zDivert).addReason .voided, 0,
    by decide +kernel⟩
theorem witness_ExitOfFront_starts : ∃ s : State, s.mon.lane = .running ∧ s.zone zFront = .ready
    ∧ s.frontStage = some .claimWon := ⟨atFront .claimWon 2, by decide +kernel⟩
theorem witness_ExitOfFront_completes : ∃ (s : State) (p : PalletRecord) (m : Manifest), s.working = true
    ∧ s.inp.exitEye = true ∧ s.seq.exit ≠ .idle ∧ s.pallet zFront = some p ∧ p.manifest = some m ∧ s.rel.followUp = true :=
  ⟨{ ((atFront .claimWon 2).startExit.setEye .exit true) with rel := ⟨true, false, none⟩ }, { pal zFront with stage := .exiting },
    man, by decide +kernel⟩

theorem witness_RejectTransfer_fullRing : ∃ (s : State) (p : PalletRecord) (since : Ms) (e : LoadEntry), s.working = true
    ∧ s.seq.reject = .running since ∧ s.inp.rejectEye = false ∧ s.pallet zDivert = some p ∧ s.ring.records.length = 32
    ∧ s.line.inFlight = some .ring ∧ p.manifest = some man ∧ s.loadEntry man.load = some e ∧ e.count ≤ 1 ∧ e.closing = true :=
  ⟨{ ((withPallet zDivert .ready).addReason zDivert .voided).startReject true with
      ring := (fullRing none).ring, line := { State.reset.line with inFlight := some .ring }
      view := ⟨[⟨215, 2, 8, none, 1, true⟩], 0⟩ }, (pal zDivert).addReason .voided, 0, ⟨215, 2, 8, none, 1, true⟩, by decide +kernel⟩

/-! ### Identification -/

/-- A lane whose IN record awaits its tag read. -/
def reading : State :=
  { ((lane .running).setPallet zIn (some (PalletRecord.fresh 9 zIn 0 false))).setZone zIn .occupied with read := ⟨some 9, some 0⟩ }

theorem witness_ReadResolves : ∃ (s : State) (tag : BitVec 8) (p : PalletRecord) (since : Ms), s.working = true
    ∧ s.read = ⟨some tag, some since⟩ ∧ s.pallet zIn = some p :=
  ⟨reading, 9, PalletRecord.fresh 9 zIn 0 false, 0, by decide +kernel⟩
theorem witness_ReadResolves_stray : ∃ s : State, s.working = true ∧ s.read.awaiting = none := ⟨lane .running, by decide +kernel⟩
theorem witness_TagReadIdentifies_duplicate : ∃ (s : State) (p : PalletRecord) (z : Fin 9) (q : PalletRecord), s.working = true
    ∧ s.read.awaiting = some 9 ∧ s.pallet zIn = some p ∧ (77 : BitVec 32) ≠ 0 ∧ z ≠ zIn ∧ s.pallet z = some q
    ∧ q.ident = some 77 :=
  ⟨reading.setPallet zBed (some (pal zBed)), PalletRecord.fresh 9 zIn 0 false, zBed, pal zBed, by decide +kernel⟩
theorem witness_TagReadIdentifies_hit : ∃ (s : State) (p : PalletRecord) (w : Fin 4), s.working = true
    ∧ s.read.awaiting = some 9 ∧ s.pallet zIn = some p ∧ s.identElsewhere zIn 77 = false ∧ s.lookup 77 = some w :=
  ⟨reading.storeManifest man, PalletRecord.fresh 9 zIn 0 false, 0, by decide +kernel⟩

/-- A full list of load entries, of which the one with load 9 alone has count 0. -/
def fullView : List LoadEntry :=
  [⟨1, 1, 8, none, 1, false⟩, ⟨2, 1, 8, none, 1, false⟩, ⟨3, 1, 8, none, 1, false⟩, ⟨4, 1, 8, none, 1, false⟩,
    ⟨5, 1, 8, none, 1, false⟩, ⟨6, 1, 8, none, 1, false⟩, ⟨7, 1, 8, none, 1, false⟩, ⟨8, 1, 8, none, 1, false⟩,
    ⟨9, 1, 8, none, 0, false⟩]
  ++ [⟨10, 1, 8, none, 1, false⟩, ⟨11, 1, 8, none, 1, false⟩, ⟨12, 1, 8, none, 1, false⟩, ⟨13, 1, 8, none, 1, false⟩,
    ⟨14, 1, 8, none, 1, false⟩, ⟨15, 1, 8, none, 1, false⟩, ⟨16, 1, 8, none, 1, false⟩]

theorem witness_TagReadIdentifies_entries : ∀ v ∈ [⟨[], 0⟩, (⟨[⟨215, 2, 8, none, 1, false⟩], 0⟩ : LoadView), ⟨fullView, 0⟩],
    ∃ (s : State) (p : PalletRecord) (w : Fin 4), s.working = true ∧ s.read.awaiting = some 9 ∧ s.pallet zIn = some p
      ∧ s.identElsewhere zIn 77 = false ∧ s.lookup 77 = some w ∧ s.view = v ∧ viewFits s
      ∧ (v.entries.length = 16 → ∃ before x after, v.entries = before ++ x :: after ∧ x.count = 0
          ∧ ∀ y ∈ after, y.count ≠ 0) := by
  intro v hv
  refine ⟨{ reading.storeManifest man with view := v }, PalletRecord.fresh 9 zIn 0 false, 0, rfl, rfl, rfl, rfl, rfl, rfl, ?_, ?_⟩
  · revert v; unfold viewFits; decide +kernel
  · intro hl
    rcases List.mem_cons.mp hv with rfl | hv
    · simp at hl
    rcases List.mem_cons.mp hv with rfl | hv
    · simp at hl
    obtain rfl := List.mem_singleton.mp hv
    exact ⟨fullView.take 8, ⟨9, 1, 8, none, 0, false⟩, fullView.drop 9, rfl, rfl, by decide⟩
theorem witness_TagReadIdentifies_miss : ∃ (s : State) (p : PalletRecord), s.working = true
    ∧ s.read.awaiting = some 9 ∧ s.pallet zIn = some p ∧ s.identElsewhere zIn 77 = false ∧ s.lookup 77 = none
    ∧ s.tracker.length < 2 :=
  ⟨reading, PalletRecord.fresh 9 zIn 0 false, by decide +kernel⟩

/-- A lane whose BED record waits for the manifest of ident 77. -/
def requesting (retries : Nat) : State :=
  { ((lane .running).setPallet zBed (some { pal zBed with manifest := none })).setZone zBed .occupied with
    tracker := [⟨77, 7, retries, true, some 0⟩] }

theorem witness_offered : ∃ (s : State) (src : Station) (dst : BitVec 4), s.working = true ∧ offered s src dst
    ∧ s.mon.lane = .running :=
  ⟨lane .running, 12, 15, by decide +kernel, by unfold offered; decide +kernel, rfl⟩
theorem witness_ManifestTaken_refused : ∃ (s : State) (m : Manifest), s.working = true ∧ offered s 12 3 ∧ manifestOk m = false :=
  ⟨lane .running, blankManifest, by decide +kernel, by unfold offered; decide +kernel, by decide +kernel⟩
theorem witness_ManifestTaken_stored : ∃ (s : State) (m : Manifest) (e : LoadEntry), s.working = true ∧ offered s 12 3
    ∧ m.ident ≠ 0 ∧ m.load ≠ 0 ∧ m.seq ≠ 0 ∧ m.seq.toNat ≤ m.total.toNat ∧ 1 ≤ m.issueNext.toNat ∧ m.issueNext.toNat ≤ 256
    ∧ (∀ e ∈ s.tracker, e.ident ≠ m.ident) ∧ s.loadEntry m.load = some e ∧ e.next ≤ 256 :=
  ⟨atFront .waiting 1, { man with issueNext := 256 }, ⟨215, 1, 8, none, 1, false⟩, by decide +kernel,
    by unfold offered; decide +kernel, by decide +kernel⟩
theorem witness_ManifestTaken_entries : ∀ v ∈ [⟨[], 0⟩, (⟨fullView, 0⟩ : LoadView)], ∃ s : State, s.working = true
    ∧ offered s 12 3 ∧ s.view = v ∧ s.loadEntry man.load = none ∧ viewFits s ∧ (∀ e ∈ s.tracker, e.ident ≠ man.ident) := by
  intro v hv
  refine ⟨{ lane .running with view := v }, rfl, ?_, rfl, ?_, ?_, by simp [lane, State.reset]⟩
  · show (12 : Station) ≠ (lane .running).own ∧ ((3 : BitVec 4) = 15#4 ∨ (3 : BitVec 4).toNat = (lane .running).own.val)
    decide +kernel
  · revert v; decide +kernel
  · revert v; unfold viewFits; decide +kernel
theorem witness_ManifestTaken_delivered : ∃ (s : State) (m : Manifest) (e : TrackEntry) (z : Fin 9) (p : PalletRecord),
    s.working = true ∧ offered s 12 3 ∧ manifestOk m = true ∧ m.unitMass ≠ 0 ∧ s.entryForIdent m.ident = some e
    ∧ s.zoneOfTag e.tag = some z ∧ s.pallet z = some p :=
  ⟨requesting 2, man, ⟨77, 7, 2, true, some 0⟩, zBed, { pal zBed with manifest := none }, by decide +kernel,
    by unfold offered; decide +kernel, by decide +kernel⟩
theorem witness_ManifestVoided : ∃ (s : State) (z : Fin 9) (p : PalletRecord), s.working = true ∧ offered s 12 3
    ∧ cacheFits s ∧ s.pallet z = some p ∧ p.ident = some 77 ∧ p.stage = .claimWon :=
  ⟨atFront .claimWon 2, zFront, { pal zFront with stage := .claimWon }, by decide +kernel, by unfold offered; decide +kernel,
    by unfold cacheFits; decide +kernel, by decide +kernel⟩
theorem witness_ManifestVoided_queued : ∀ flies ∈ [true, false], ∃ (s : State) (p : PalletRecord), s.working = true ∧ offered s 12 3
    ∧ cacheFits s ∧ s.pallet zFront = some p ∧ p.ident = some 77 ∧ p.stage = .claimQueued ∧ s.claimInFlight = flies := by
  intro flies _
  refine ⟨{ claiming with line := { claiming.line with inFlight := bif flies then some .sequence else none } },
    { pal zFront with stage := .claimQueued }, rfl, ?_, ?_, rfl, rfl, rfl, ?_⟩
  · unfold offered; decide +revert +kernel
  · unfold cacheFits; decide +revert +kernel
  · decide +revert +kernel
theorem witness_ManifestVoided_won : ∃ (s : State) (p : PalletRecord) (m : Manifest), s.working = true ∧ offered s 12 3
    ∧ cacheFits s ∧ s.pallet zFront = some p ∧ p.ident = some 77 ∧ p.stage = .claimWon ∧ p.manifest = some m
    ∧ s.rel.followUp = true :=
  ⟨{ atFront .claimWon 2 with rel := ⟨true, false, none⟩ }, { pal zFront with stage := .claimWon }, man, by decide +kernel,
    by unfold offered; decide +kernel, by unfold cacheFits; decide +kernel, by decide +kernel⟩
theorem witness_ManifestVoided_request : ∃ (s : State) (e : TrackEntry), s.working = true ∧ offered s 12 3 ∧ cacheFits s
    ∧ s.entryForIdent 77 = some e ∧ s.requestInFlight e.tag = true :=
  ⟨sending { requesting 2 with tx := { State.reset.tx with request := [.manifestRequest 77 7] } } .request, ⟨77, 7, 2, true, some 0⟩,
    by decide +kernel, by unfold offered; decide +kernel, by unfold cacheFits; decide +kernel, by decide +kernel⟩
theorem witness_RequestJoins : ∃ (s : State) (before after : List TrackEntry) (e : TrackEntry), s.working = true
    ∧ s.tracker = before ++ e :: after ∧ (∀ x ∈ before, x.joined = true) ∧ e.joined = false ∧ s.tx.request.length < 2 :=
  ⟨{ requesting 2 with tracker := [⟨77, 7, 2, true, some 0⟩, ⟨78, 8, 2, false, none⟩] }, [⟨77, 7, 2, true, some 0⟩], [],
    ⟨78, 8, 2, false, none⟩, by decide +kernel⟩
theorem witness_RequestExpires_retry : ∃ (s : State) (tag : BitVec 8) (e : TrackEntry) (since : Ms), s.working = true
    ∧ s.entryOf tag = some e ∧ e.tManifest = some since ∧ 0 < e.retries ∧ s.tx.request.length < 2
    ∧ s.tracker.filter (·.tag == tag) = [e] ∧ ∀ y ∈ s.tracker, y.tag = tag ∨ y.joined = true :=
  ⟨requesting 2, 7, ⟨77, 7, 2, true, some 0⟩, 0, by decide +kernel⟩
theorem witness_RequestExpires_last : ∃ (s : State) (tag : BitVec 8) (e : TrackEntry) (since : Ms) (z : Fin 9)
    (p : PalletRecord), s.working = true ∧ s.entryOf tag = some e ∧ e.tManifest = some since ∧ e.retries = 0
    ∧ s.zoneOfTag tag = some z ∧ s.pallet z = some p :=
  ⟨requesting 0, 7, ⟨77, 7, 0, true, some 0⟩, 0, zBed, { pal zBed with manifest := none }, by decide +kernel⟩
theorem witness_ReplacementBits_full : ∃ (c : CacheSet) (ident : BitVec 32),
    ∀ v : Fin 4, (c.ways[v.val]).valid = true ∧ (c.ways[v.val]).ident ≠ ident :=
  ⟨⟨Vector.replicate 4 ⟨true, 5, blankManifest⟩, true, false, true⟩, 77, by decide +kernel⟩
theorem witness_ReplacementBits_free : ∃ (c : CacheSet) (ident : BitVec 32) (w : Fin 4), c.findWay ident = none
    ∧ (c.ways[w.val]).valid = false ∧ ∀ v : Fin 4, v < w → (c.ways[v.val]).valid = true :=
  ⟨(CacheSet.startUp.store man), 78, 1, by decide +kernel⟩
theorem witness_ReplacementBits_held : ∃ (c : CacheSet) (w : Fin 4), (c.ways[w.val]).valid = true
    ∧ (c.ways[w.val]).ident = 77 ∧ ∀ v : Fin 4, (c.ways[v.val]).valid = true → (c.ways[v.val]).ident = 77 → v = w :=
  ⟨(CacheSet.startUp.store man), 0, by decide +kernel⟩
theorem witness_ReplacementBits_taken : ∃ (s : State) (m : Manifest), s.working = true ∧ offered s 12 3 ∧ manifestOk m = true
    ∧ ∀ e ∈ s.tracker, e.ident ≠ m.ident :=
  ⟨lane .running, man, by decide +kernel, by unfold offered; decide +kernel, by decide +kernel⟩
theorem witness_ReplacementBits_kept : ∃ (c : Instr) (s t : State), exec c s = .next t ∧ ∃ r, c = .tagReply r :=
  ⟨.tagReply (.read 77), reading.storeManifest man, _, rfl, _, rfl⟩

/-! ### Weighing -/

theorem witness_MissCounts_missed : ∃ (s : State) (i : Fin 5) (bits : BitVec 26), s.working = true ∧ s.bed.slot.val = i.val
    ∧ (i = 4 → s.cfg.slot4 = true) ∧ bits = BitVec.allOnes 26 ∧ s.missCount i = 63 ∧ room s
    ∧ unlisted s .cellLost (some 1) ∧ unlisted s .forceLost (some 2) :=
  ⟨{ lane .running with bed := { State.reset.bed with miss := Vector.replicate 5 63, slot := 4 } }, 4, BitVec.allOnes 26,
    by decide +kernel, by decide +kernel, by decide +kernel, rfl, by decide +kernel, by unfold room; decide +kernel, by unfold unlisted; decide +kernel,
    by unfold unlisted; decide +kernel⟩
theorem witness_MissCounts_judged : ∃ (s : State) (i : Fin 5) (bits : BitVec 26), s.working = true ∧ s.bed.slot.val = i.val
    ∧ (i = 4 → s.cfg.slot4 = true) ∧ bits ≠ BitVec.allOnes 26 ∧ bits.getLsbD 1 = true :=
  ⟨atSlot (lane .running) 4, 4, 2, by decide +kernel⟩
theorem witness_MissCounts_disabled : ∃ (c : Instr) (s t : State), s.cfg.slot4 = false ∧ s.missCount 4 = 0 ∧ exec c s = .next t
    ∧ t.cfg.slot4 = false :=
  ⟨.bedSlotJudged 4 0, { atSlot (lane .running) 4 with image := some { img with slot4 := false } }, _, by decide +kernel, by decide +kernel, rfl,
    by decide +kernel⟩
theorem witness_LostCells_return : ∃ (s : State) (i : Fin 5) (bits : BitVec 26), s.working = true ∧ s.bed.slot.val = i.val ∧ bits ≠ BitVec.allOnes 26
    ∧ bits.getLsbD 1 = true ∧ i ≠ 4 ∧ (∀ j : Fin 5, j ≠ 4 → j ≠ i → s.missCount j = 0) :=
  ⟨lane .running, 0, 2, by decide +kernel⟩
theorem witness_LostCells_stay : ∃ (s : State) (i : Fin 5) (bits : BitVec 26), s.working = true ∧ s.bed.slot.val = i.val ∧ bits ≠ BitVec.allOnes 26
    ∧ bits.getLsbD 1 = true ∧ i ≠ 4 ∧ (∃ j : Fin 5, j ≠ 4 ∧ j ≠ i ∧ s.missCount j ≠ 0) :=
  ⟨{ lane .running with bed := { State.reset.bed with miss := Vector.replicate 5 63 } }, 0, 2, by decide +kernel⟩
theorem witness_Frames_slots : ∃ (s : State) (i j : Fin 5), s.working = true ∧ s.bed.slot.val = i.val
    ∧ (i = 4 → s.cfg.slot4 = true) ∧ s.bed.slot.val ≠ j.val ∧ s.bed.slot.val ≠ (if s.cfg.slot4 = true then 5 else 4) :=
  ⟨atSlot (lane .running) 4, 4, 3, by decide +kernel⟩
theorem witness_Frames_disabledSlot : ∃ s : State, s.working = true ∧ s.bed.slot.val = 4 ∧ s.cfg.slot4 = false :=
  ⟨{ atSlot (lane .running) 4 with image := some { img with slot4 := false } }, by decide +kernel⟩
theorem witness_Frames_emptied : ∃ s : State, s.working = true
    ∧ s.bed.slot.val = (if s.cfg.slot4 = true then 5 else 4) ∧ s.zone zBed = .arriving :=
  ⟨atSlot ((lane .running).setZone zBed .arriving) 5, by decide +kernel⟩

/-- A window that the next set of an empty, still bed makes stable. -/
def still (s : State) : State :=
  { atSlot s 5 with weigh := { s.weigh with window := List.replicate 7 ⟨Corners.zero, 0⟩ } }

theorem witness_AutoZero : ∃ s : State, s.working = true ∧ s.bed.slot.val = (if s.cfg.slot4 = true then 5 else 4) ∧ s.zone zBed = .empty ∧ s.bed.clean = true
    ∧ s.acceptSet.windowStable = true ∧ s.mon.faults.length ≤ 6 :=
  ⟨still (lane .running), by decide +kernel⟩
theorem witness_SettledWeighing : ∃ (s : State) (p : PalletRecord) (m : Manifest), s.working = true
    ∧ s.bed.slot.val = (if s.cfg.slot4 = true then 5 else 4) ∧ s.zone zBed = .occupied
    ∧ s.weigh.state = .settling ∧ s.bed.clean = true ∧ s.acceptSet.windowStable = true ∧ s.pallet zBed = some p
    ∧ p.manifest = some m :=
  ⟨{ still (withPallet zBed .occupied) with
      weigh := { (still (withPallet zBed .occupied)).weigh with state := .settling } }, pal zBed, man, by decide +kernel⟩
/-- A wrap that monitors its film force, at the end of a frame, with the force of slot 4, the levels and the run counts. -/
def force (held : BitVec 24) (breakAt highAt : Int) (low high : Nat) : State :=
  let s := atSlot (wrapping .bottom) 5
  { s with
    image := some { img with classes := Vector.replicate 4 ⟨3, 2, true, 100, breakAt, highAt⟩ }
    bed := { s.bed with held := s.bed.held.set 4 held }, wrap := { s.wrap with lowRun := low, highRun := high } }

/-- What the clauses on the film force ask of the state. -/
def Monitored (s : State) : Prop :=
  s.working = true ∧ s.bed.slot.val = 5 ∧ s.cfg.slot4 = true ∧ s.bed.judged[4] ≠ some .missed
    ∧ s.wrap.state ∈ [WrapState.bottom, .rise, .top, .descend] ∧ s.mon.faults.length ≤ 6 ∧ live s ∧ s.zone zTable ≠ .empty

/-- The film force of R104. -/
def forceOf (s : State) : Int := (s.bed.held[4].toInt * s.cfg.forceGain).fdiv 65536

theorem witness_FilmForce_low : ∃ s : State, Monitored s ∧ forceOf s < s.wrapClass.breakLevel ∧ s.wrap.lowRun < 7 :=
  ⟨force 40 40 220 6 0, by unfold Monitored live; decide +kernel⟩
theorem witness_FilmForce_break : ∃ s : State, Monitored s ∧ forceOf s < s.wrapClass.breakLevel ∧ s.wrap.lowRun = 7 :=
  ⟨force 40 40 220 7 0, by unfold Monitored live; decide +kernel⟩
theorem witness_FilmForce_high : ∃ s t : State, Monitored s ∧ s.wrapClass.breakLevel ≤ forceOf s
    ∧ s.wrapClass.highLevel < forceOf s ∧ s.wrapClass.highLevel ≠ 65535 ∧ s.wrap.highRun < 7
    ∧ Monitored t ∧ t.wrapClass.breakLevel ≤ forceOf t ∧ t.wrapClass.highLevel < forceOf t ∧ t.wrapClass.highLevel ≠ 65535
    ∧ t.wrap.highRun = 7 :=
  ⟨force 222 40 220 0 6, force 222 40 220 0 7, by unfold Monitored live; decide +kernel⟩
theorem witness_FilmForce_within : ∃ s t : State, Monitored s ∧ s.wrapClass.breakLevel ≤ forceOf s
    ∧ forceOf s ≤ s.wrapClass.highLevel ∧ Monitored t ∧ t.wrapClass.breakLevel ≤ forceOf t ∧ t.wrapClass.highLevel = 65535 :=
  ⟨force 41 40 220 6 6, force 70000 40 65535 6 7, by unfold Monitored live; decide +kernel⟩
theorem witness_FilmForce_unmonitored : ∃ s : State, s.working = true
    ∧ s.bed.slot.val = (if s.cfg.slot4 = true then 5 else 4) ∧ s.wrap.state.inProgress = true
    ∧ s.wrap.state ∉ [WrapState.bottom, .rise, .top, .descend] :=
  ⟨atSlot (wrapping .park) 5, by decide +kernel⟩
theorem witness_WeightAndBalance : ∃ (band : Int) (m : Corners), 0 ≤ band ∧ 0 < m.total ∧ 0 ≤ m.c0 ∧ 0 ≤ m.c1 ∧ 0 ≤ m.c2
    ∧ 0 ≤ m.c3 :=
  ⟨2000, ⟨10, 20, 30, 40⟩, by decide⟩
theorem witness_CaseDeviation : ∃ d u : Int, 0 < u ∧ -128 < caseDeviation d u ∧ caseDeviation d u < 127 := ⟨5270, 10540, by decide⟩
theorem witness_CaseDeviation_ends : ∃ d e u : Int, 0 < u ∧ caseDeviation d u = 127 ∧ 2 * d = 253 * u ∧ caseDeviation e u = -128
    ∧ 2 * e = -255 * u := ⟨253, -255, 2, by decide⟩
theorem witness_WeighingStarts : ∃ s : State, s.working = true ∧ s.weigh.state = .blocked ∧ s.zone zBed = .occupied
    ∧ s.mon.overflow = false ∧ ∀ e ∈ s.mon.faults, e.kind ≠ .cellLost ∧ e.kind ≠ .bedNotZero :=
  ⟨(withPallet zBed .occupied).beginWeighing, by decide +kernel⟩
theorem witness_WeighingExpires : ∃ (s : State) (p : PalletRecord) (since : Ms), s.working = true ∧ s.weigh.state = .settling
    ∧ s.weigh.tSettle = some since ∧ s.pallet zBed = some p :=
  ⟨(withPallet zBed .occupied).doWeigh, pal zBed, 0, by decide +kernel⟩

/-! ### Wrapping -/

/-- A wrap state with counters set. -/
def wrapAt (w : WrapState) (f : WrapController → WrapController) : State :=
  { wrapping w with wrap := f (wrapping w).wrap }

theorem witness_Turntable_pulse : ∃ s : State, s.working = true ∧ s.wrap.angleCmp.armed = false := ⟨wrapping .bottom, by decide +kernel⟩
theorem witness_Turntable_park : ∃ s : State, s.working = true ∧ s.wrap.state = .park ∧ s.wrap.angleCmp.armed = true
    ∧ s.wrap.angleCmp.active = s.wrap.angle + 1 :=
  ⟨wrapAt .park (fun w => { w with angle := 999, angleCmp := ⟨true, 1000, 1000⟩ }), by decide +kernel⟩
theorem witness_Turntable_bottom : ∃ s : State, s.working = true ∧ s.wrap.state = .bottom
    ∧ min 255 (s.wrap.rev + 1) < s.wrapClass.bottomCount := ⟨wrapping .bottom, by decide +kernel⟩
theorem witness_Turntable_rise : ∃ s : State, s.working = true ∧ s.wrap.state = .bottom
    ∧ s.wrapClass.bottomCount ≤ min 255 (s.wrap.rev + 1) ∧ s.wrap.mast ≠ s.cfg.mastMax :=
  ⟨wrapAt .bottom (fun w => { w with rev := 2 }), by decide +kernel⟩
theorem witness_Turntable_descend : ∃ s : State, s.working = true ∧ s.wrap.state = .top
    ∧ s.wrapClass.topCount ≤ min 255 (s.wrap.rev + 1) ∧ s.wrapClass.cross = true
    ∧ s.cfg.bottomTarget.toNat < s.wrap.mast.toNat :=
  ⟨wrapAt .top (fun w => { w with rev := 1, mast := 201 }), by decide +kernel⟩
theorem witness_Turntable_straight : ∃ s : State, s.working = true ∧ s.wrap.state = .top
    ∧ s.wrapClass.topCount ≤ min 255 (s.wrap.rev + 1) ∧ s.wrapClass.cross = false ∧ s.cfg.parkAngle ≠ 0 :=
  ⟨{ wrapAt .top (fun w => { w with rev := 1 }) with
      image := some { img with classes := Vector.replicate 4 ⟨3, 2, false, 100, 40, 220⟩ } }, by decide +kernel⟩
theorem witness_Turntable_second : ∃ s : State, s.working = true ∧ s.wrap.state = .park ∧ 1 ≤ s.wrap.parkIndexes :=
  ⟨wrapAt .park (fun w => { w with parkIndexes := 1 }), by decide +kernel⟩
theorem witness_Turntable_slip : ∃ s : State, s.working = true ∧ s.wrap.state.turning = true ∧ s.wrap.first = false ∧ room s
    ∧ s.cfg.countsPerRev / 50 < ((s.wrap.angle.toNat : Int) - (s.cfg.countsPerRev : Int)).natAbs :=
  ⟨wrapAt .bottom (fun w => { w with angle := 4081 }), by decide +kernel, by decide +kernel, by decide +kernel, by unfold room; decide +kernel,
    by decide +kernel⟩
theorem witness_Mast_steps : ∃ s : State, s.working = true ∧ s.wrap.mast ≠ 65535#16 ∧ s.wrap.mast ≠ 0#16 :=
  ⟨wrapAt .bottom (fun w => { w with mast := 1 }), by decide +kernel⟩
theorem witness_Mast_beyond : ∃ s : State, live s ∧ s.wrap.mast = (if false then 65535#16 else 0#16) ∧ room s :=
  ⟨wrapping .bottom, .inr (.inl rfl), by decide +kernel, by unfold room; decide +kernel⟩
theorem witness_Home_found : ∃ s : State, s.working = true ∧ s.wrap.state = .homing ∧ s.inp.mastHome = false :=
  ⟨(lane .running).enterHoming, by decide +kernel⟩
theorem witness_Home_passed : ∃ s : State, s.working = true ∧ s.wrap.state ≠ .homing := ⟨lane .running, by decide +kernel⟩
theorem witness_RiseEnds : ∃ (s : State) (p : PalletRecord) (k : BitVec 16) (m : Manifest), s.working = true
    ∧ s.wrap.state = .rise ∧ s.wrap.mastCmp.armed = true ∧ s.wrap.mast ≠ 65535#16 ∧ s.wrap.mastCmp.active = s.wrap.mast + 1
    ∧ 0 < s.wrapClass.topCount ∧ s.pallet zTable = some p ∧ s.zone zTable = .occupied ∧ s.label.tableJob = none
    ∧ s.wrap.capture = some k ∧ p.manifest = some m ∧ p.reasons = 0 :=
  ⟨wrapAt .rise (fun w => { w with mast := 6919, mastCmp := ⟨true, 6920, 6920⟩, capture := some 6520 }), pal zTable, 6520, man,
    by decide +kernel⟩
theorem witness_TopEye_clear : ∃ s : State, s.working = true ∧ s.wrap.state = .rise ∧ s.inp.topEye = true
    ∧ min s.cfg.mastMax.toNat (s.wrap.mast.toNat + s.wrapClass.overlapMm * 1000 / s.cfg.mu) ≠ s.wrap.mast.toNat :=
  ⟨{ wrapping .rise with inp := { Inputs.startUp with topEye := true } }, by decide +kernel⟩
theorem witness_TopEye_endsRise : ∃ (s : State) (p : PalletRecord) (m : Manifest), s.working = true ∧ s.wrap.state = .rise
    ∧ s.inp.topEye = true
    ∧ min s.cfg.mastMax.toNat (s.wrap.mast.toNat + s.wrapClass.overlapMm * 1000 / s.cfg.mu) = s.wrap.mast.toNat
    ∧ 0 < s.wrapClass.topCount ∧ s.pallet zTable = some p ∧ s.zone zTable = .occupied ∧ s.label.tableJob = none
    ∧ p.manifest = some m ∧ p.reasons = 0 :=
  ⟨{ wrapAt .rise (fun w => { w with mast := 8800 }) with inp := { Inputs.startUp with topEye := true } }, pal zTable, man,
    by decide +kernel⟩
theorem witness_TopEye_blocksAtTop : ∃ (s : State) (p : PalletRecord), s.working = true ∧ s.wrap.state = .rise ∧ s.inp.topEye = false
    ∧ s.wrap.mast = s.cfg.mastMax ∧ 0 < s.wrapClass.topCount ∧ s.pallet zTable = some p ∧ s.zone zTable = .occupied
    ∧ s.label.tableJob = none := ⟨wrapAt .rise (fun w => { w with mast := 8800 }), pal zTable, by decide +kernel⟩
theorem witness_TopEye_block : ∃ s : State, s.working = true ∧ s.wrap.state = .rise ∧ s.inp.topEye = false
    ∧ s.wrap.mast ≠ s.cfg.mastMax := ⟨wrapping .rise, by decide +kernel⟩
theorem witness_TopEye_elsewhere : ∃ s : State, s.working = true ∧ s.wrap.state ≠ .rise := ⟨wrapping .top, by decide +kernel⟩
theorem witness_WrapStarts : ∃ (s : State) (p : PalletRecord) (m : Manifest), s.mon.lane = .running ∧ s.zone zTable = .occupied
    ∧ s.pallet zTable = some p ∧ p.wrap = .none ∧ p.reasons = 0 ∧ p.manifest = some m ∧ s.wrap.state = .idle
    ∧ s.wrap.homed = true ∧ s.mon.overflow = false ∧ (∀ e ∈ s.mon.faults, e.kind ≠ .filmLow)
    ∧ s.cfg.bottomTarget.toNat < s.wrap.mast.toNat :=
  ⟨wrapAt .idle (fun w => { w with mast := 201 }), pal zTable, man, by decide +kernel⟩
/-- The conditions of a wrap start with the mast at or below the bottom target. -/
def StartsLow (s : State) (p : PalletRecord) (m : Manifest) : Prop :=
  s.mon.lane = .running ∧ s.zone zTable = .occupied ∧ s.pallet zTable = some p ∧ p.wrap = .none ∧ p.reasons = 0
    ∧ p.manifest = some m ∧ s.wrap.state = .idle ∧ s.wrap.homed = true
    ∧ (s.mon.overflow = false ∧ ∀ e ∈ s.mon.faults, e.kind ≠ .filmLow ∧ e.kind ≠ .forceLost ∧ e.kind ≠ .forceHigh
        ∧ e.kind ≠ .turntableSlip)
    ∧ s.wrap.mast.toNat ≤ s.cfg.bottomTarget.toNat

/-- A wrap about to start with the mast at 200, with a bottom count and a mast maximum. -/
def lowMast (bottomCount : Nat) (mastMax : BitVec 16) : State :=
  { wrapAt .idle (fun w => { w with mast := 200 }) with
    image := some { img with mastMax := mastMax, classes := Vector.replicate 4 ⟨bottomCount, 2, true, 100, 40, 220⟩ } }

theorem witness_WrapStarts_bottom : ∃ (s : State) (p : PalletRecord) (m : Manifest) (c : WrapClass), StartsLow s p m
    ∧ s.cfg.classes[m.wrapClass.toNat]? = some c ∧ 0 < c.bottomCount :=
  ⟨lowMast 3 8800, pal zTable, man, _, by unfold StartsLow; decide +kernel, rfl, by decide⟩
theorem witness_WrapStarts_rise : ∃ (s : State) (p : PalletRecord) (m : Manifest) (c : WrapClass), StartsLow s p m
    ∧ s.cfg.classes[m.wrapClass.toNat]? = some c ∧ c.bottomCount = 0 ∧ s.wrap.mast ≠ s.cfg.mastMax :=
  ⟨lowMast 0 8800, pal zTable, man, _, by unfold StartsLow; decide +kernel, rfl, by decide, by decide +kernel⟩
theorem witness_WrapStarts_top : ∃ (s : State) (p : PalletRecord) (m : Manifest), StartsLow s p m ∧ s.wrap.mast = s.cfg.mastMax
    ∧ ∀ c, s.cfg.classes[m.wrapClass.toNat]? = some c → c.bottomCount = 0 :=
  ⟨lowMast 0 200, pal zTable, man, by unfold StartsLow; decide +kernel, by decide +kernel, by
    intro c h; obtain rfl := Option.some.inj (h.symm.trans (rfl : _ = some _)); rfl⟩
theorem witness_WrapSkipped : ∃ (s : State) (p : PalletRecord) (since : Ms), s.working = true ∧ s.transfer 1 = .running since
    ∧ s.eye zTable = false ∧ s.pallet zBed = some p ∧ p.reasons ≠ 0 ∧ p.wrap = .none ∧ p.label = .none
    ∧ s.wrap.state = .idle ∧ s.label.tableJob = none :=
  ⟨((withPallet zBed .departing).addReason zBed .under).setTransfer 1 (.running 0), (pal zBed).addReason .under, 0,
    by decide +kernel⟩
theorem witness_CutTimeEnds : ∃ (s : State) (p : PalletRecord) (since : Ms), s.working = true ∧ s.wrap.state = .cut
    ∧ s.wrap.cutSince = some since ∧ s.pallet zTable = some p ∧ s.zone zTable = .occupied :=
  ⟨(wrapping .park).enterCut, pal zTable, 0, by decide +kernel⟩

/-! ### Inputs and labels -/

theorem witness_FaultInputs_raise : ∃ s : State, live s ∧ s.working = true ∧ s.inp.filmLow = false ∧ s.labelLowLevel .left = false
    ∧ s.inp.estop = false ∧ room s :=
  ⟨lane .stopped, .inl rfl, by decide +kernel, by decide +kernel, by decide +kernel, by decide +kernel, by unfold room; decide +kernel⟩
theorem witness_FaultInputs_end : ∃ s : State, s.working = true ∧ s.inp.filmLow = true ∧ s.inp.estop = true ∧ Side.left ≠ Side.right
    ∧ s.labelLowLevel .left = true ∧ s.labelLowLevel .right = false :=
  ⟨{ lane .fault with inp := { Inputs.startUp with filmLow := true, estop := true, labelLowL := true } }, by decide +kernel⟩
theorem witness_FaultInputs_both : ∃ s : State, s.working = true ∧ s.labelLowLevel .left = true ∧ s.labelLowLevel .right = true :=
  ⟨{ lane .running with inp := { Inputs.startUp with labelLowL := true, labelLowR := true } }, by decide +kernel⟩
theorem witness_FaultInputs_again : ∃ s : State, s.working = true ∧ s.inp.filmLow = false ∧ s.inp.estop = false
    ∧ s.labelLowLevel .left = false ∧ ∀ k ∈ [(FaultKind.filmLow, some (2 : Fin 11)), (.estop, none), (.labelLow, some 3)],
      ∃ e ∈ s.mon.faults, (e.kind, e.zone) = k :=
  ⟨{ lane .stopped with mon := { (lane .stopped).mon with
      faults := [⟨.filmLow, some 2, 255, 0, false⟩, ⟨.estop, none, 1, 0, false⟩, ⟨.labelLow, some 3, 1, 0, false⟩] } },
    by decide +kernel⟩
theorem witness_FaultInputs_full : ∃ s : State, s.working = true ∧ s.inp.filmLow = false ∧ s.inp.estop = false
    ∧ s.labelLowLevel .left = false ∧ s.mon.faults.length = 8 ∧ unlisted s .filmLow (some 2) ∧ unlisted s .estop none
    ∧ unlisted s .labelLow (some 3) :=
  ⟨{ lane .stopped with mon := { (lane .stopped).mon with
      faults := ([1, 2, 3, 4, 5, 6, 7, 8] : List (Fin 11)).map (fun z => ⟨.jam, some z, 1, 0, true⟩) } },
    by decide +kernel, by decide +kernel, by decide +kernel, by decide +kernel, by decide +kernel, by unfold unlisted; decide +kernel,
    by unfold unlisted; decide +kernel, by unfold unlisted; decide +kernel⟩
theorem witness_FaultReport : ∃ position listed : Nat, position ≤ 7 ∧ listed ≤ 8 := ⟨7, 8, by decide⟩
theorem witness_LabelPrinting_compose : ∃ (s : State) (j : Job) (p : PalletRecord) (m : Manifest), s.working = true
    ∧ s.label.tableJob = some j ∧ s.pallet zTable = some p ∧ j.tag = p.tag ∧ j.phase = .blocked ∧ s.zone zTable = .ready
    ∧ p.reasons = 0 ∧ p.manifest = some m ∧ s.mon.overflow = false ∧ ∀ e ∈ s.mon.faults, e.kind ≠ .labelLow :=
  ⟨labelling .blocked .pending, ⟨7, .blocked, .pending, .pending, none, some 0, some 0, false⟩, pal zTable, man, by decide +kernel⟩
theorem witness_LabelPrinting_answer : ∃ (s : State) (j : Job) (p : PalletRecord) (d : Side) (since : Ms), s.working = true
    ∧ s.label.tableJob = some j ∧ s.pallet zTable = some p ∧ j.tag = p.tag ∧ p.reasons = 0 ∧ s.zone zTable = .ready
    ∧ j.phase = .printing ∧ j.side d = .pending ∧ j.tPrint = some since :=
  ⟨labelling .printing .pending, ⟨7, .printing, .pending, .pending, none, some 0, some 0, false⟩, pal zTable, .left, 0, by decide +kernel⟩
theorem witness_LabelPrinting_stray : ∃ s : State, s.working = true ∧ s.label.tableJob = none := ⟨lane .running, by decide +kernel⟩
theorem witness_LabelPrinting_unneeded : ∃ (s : State) (p : PalletRecord) (since : Ms), s.working = true ∧ s.wrap.state = .cut
    ∧ s.wrap.cutSince = some since ∧ s.pallet zTable = some p ∧ p.label = .none ∧ s.label.tableJob = none ∧ p.reasons ≠ 0 :=
  ⟨(wrapping .park).enterCut.addReason zTable .high, (pal zTable).addReason .high, 0, by decide +kernel⟩
theorem witness_LabelPrinting_decided : ∃ (s : State) (p : PalletRecord) (m : Manifest) (since : Ms), s.working = true
    ∧ s.wrap.state = .cut ∧ s.wrap.cutSince = some since ∧ s.pallet zTable = some p ∧ p.label = .none ∧ s.label.tableJob = none
    ∧ p.reasons = 0 ∧ p.manifest = some m ∧ s.mon.overflow = false ∧ ∀ e ∈ s.mon.faults, e.kind ≠ .labelLow :=
  ⟨(wrapping .park).enterCut, pal zTable, man, 0, by decide +kernel⟩
theorem witness_LabelPrinting_blocked : ∃ (s : State) (p : PalletRecord) (m : Manifest) (since : Ms), s.working = true
    ∧ s.wrap.state = .cut ∧ s.wrap.cutSince = some since ∧ s.pallet zTable = some p ∧ p.label = .none ∧ s.label.tableJob = none
    ∧ p.reasons = 0 ∧ p.manifest = some m ∧ s.inp.runOn = false ∧ ∃ e ∈ s.mon.faults, e.kind = .labelLow :=
  ⟨{ (wrapping .park).enterCut with mon := { (wrapping .park).mon with faults := [⟨.labelLow, some 3, 1, 0, true⟩] } },
    pal zTable, man, 0, by decide +kernel⟩
theorem witness_LabelPrinting_void : ∀ ph ∈ [JobPhase.blocked, .armed], ∃ (s : State) (ident : BitVec 32) (j : Job)
    (p : PalletRecord), s.working = true ∧ offered s 12 15 ∧ s.label.tableJob = some j ∧ s.pallet zTable = some p
      ∧ j.tag = p.tag ∧ p.ident = some ident ∧ p.stage = .waiting ∧ j.phase = ph ∧ j.phase ≠ .fired := by
  intro ph hp
  refine ⟨labelling ph .pending, 77, ⟨7, ph, .pending, .pending, none, some 0, some 0, false⟩, pal zTable, rfl, ?_, rfl, rfl, rfl,
    rfl, rfl, rfl, ?_⟩
  · revert ph; unfold offered; decide +kernel
  · revert ph; decide
theorem witness_LabelFiring_mark : ∃ (s : State) (j : Job) (p : PalletRecord) (since : Ms), s.working = true
    ∧ s.inp.labelMark = false ∧ s.label.tableJob = some j ∧ s.pallet zTable = some p ∧ j.tag = p.tag ∧ p.reasons = 0
    ∧ j.phase = .consented ∧ s.transfer 2 = .running since ∧ s.cfg.applyOffset ≠ 0 :=
  ⟨(labelling .consented .ready).setTransfer 2 (.running 0), ⟨7, .consented, .ready, .ready, none, some 0, some 0, false⟩, pal zTable, 0,
    by decide +kernel⟩
theorem witness_LabelFiring_fire : ∃ (s : State) (j : Job) (p : PalletRecord), s.working = true ∧ s.label.tableJob = some j
    ∧ s.pallet zTable = some p ∧ j.tag = p.tag ∧ p.reasons = 0 ∧ j.phase = .armed ∧ s.label.cmp.armed = true
    ∧ s.label.cmp.active = s.wrap.conveyor + 1 :=
  ⟨{ labelling .armed .ready with label := { (labelling .armed .ready).label with cmp := ⟨true, 1, 1⟩ } },
    ⟨7, .armed, .ready, .ready, none, some 0, some 0, false⟩, pal zTable, by decide +kernel⟩
theorem witness_LabelFiring_counts : ∃ s : State, s.working = true ∧ s.label.cmp.armed = false := ⟨lane .running, by decide +kernel⟩
theorem witness_LabelFiring_pulse : ∃ (s : State) (since : Ms), s.working = true ∧ s.label.pulse = some since :=
  ⟨(lane .running).fire (Job.made 7), 0, by decide +kernel⟩

theorem witness_LabelFiring_released : ∃ s : State, s.working = true := ⟨lane .running, by decide +kernel⟩
theorem witness_LabelFiring_atMark : ∃ (s : State) (j : Job) (p : PalletRecord) (since : Ms), s.working = true
    ∧ s.inp.labelMark = false ∧ s.label.tableJob = some j ∧ s.pallet zTable = some p ∧ j.tag = p.tag ∧ p.reasons = 0
    ∧ j.phase = .consented ∧ s.transfer 2 = .running since ∧ s.cfg.applyOffset = 0 :=
  ⟨{ (labelling .consented .ready).setTransfer 2 (.running 0) with image := some { img with applyOffset := 0 } },
    ⟨7, .consented, .ready, .ready, none, some 0, some 0, false⟩, pal zTable, 0, by decide +kernel⟩
theorem witness_LabelFiring_givesUp : ∃ (s : State) (j : Job) (p : PalletRecord), s.working = true ∧ s.label.tableJob = some j
    ∧ s.pallet zTable = some p ∧ j.tag = p.tag ∧ p.reasons ≠ 0 ∧ j.phase = .armed ∧ s.label.cmp.armed = true
    ∧ s.label.cmp.active = s.wrap.conveyor + 1 :=
  ⟨{ (labelling .armed .ready).addReason zTable .voided with label := { (labelling .armed .ready).label with cmp := ⟨true, 1, 1⟩ } },
    ⟨7, .armed, .ready, .ready, none, some 0, some 0, false⟩, (pal zTable).addReason .voided, by decide +kernel⟩
theorem witness_LabelFiring_unfired : ∃ (s : State) (j : Job) (p : PalletRecord) (since : Ms), s.working = true
    ∧ s.transfer 2 = .running since ∧ s.eye zLabel = false ∧ s.label.tableJob = some j ∧ s.pallet zTable = some p
    ∧ j.tag = p.tag ∧ j.phase = .armed :=
  ⟨(labelling .armed .ready).setTransfer 2 (.running 0), ⟨7, .armed, .ready, .ready, none, some 0, some 0, false⟩, pal zTable, 0,
    by decide +kernel⟩

/-- A FIRED job whose record stands in LABEL. -/
def fired (l r : SideState) : State :=
  (withPallet zLabel .occupied).setLabelJob (some ⟨7, .fired, l, r, none, none, some 0, true⟩)

theorem witness_LabelConfirmations_first : ∃ (s : State) (j : Job) (z : Fin 9) (p : PalletRecord), s.working = true
    ∧ s.label.labelJob = some j ∧ j.phase = .fired ∧ s.zoneOfTag j.tag = some z ∧ s.pallet z = some p ∧ p.label = .none
    ∧ 3 ≤ z.val ∧ s.appliedLevel .left = false ∧ j.side .left = .fired ∧ j.side .right = .fired ∧ j.tApply = some 0 :=
  ⟨fired .fired .fired, ⟨7, .fired, .fired, .fired, none, none, some 0, true⟩, zLabel, pal zLabel, by decide +kernel⟩
theorem witness_LabelConfirmations_second : ∃ (s : State) (j : Job) (z : Fin 9) (p : PalletRecord), s.working = true
    ∧ s.label.labelJob = some j ∧ j.phase = .fired ∧ s.zoneOfTag j.tag = some z ∧ s.pallet z = some p ∧ p.label = .none
    ∧ 3 ≤ z.val ∧ s.appliedLevel .left = false ∧ j.side .left = .fired ∧ j.side .right = .seen :=
  ⟨fired .fired .seen, ⟨7, .fired, .fired, .seen, none, none, some 0, true⟩, zLabel, pal zLabel, by decide +kernel⟩

theorem witness_LabelConfirmations_inTable : ∃ (s : State) (j : Job) (p : PalletRecord), s.working = true
    ∧ s.label.tableJob = some j ∧ s.label.labelJob = none ∧ j.phase = .fired ∧ s.zoneOfTag j.tag = some zTable
    ∧ s.pallet zTable = some p ∧ p.label = .none ∧ s.appliedLevel .right = false ∧ j.side .right = .fired
    ∧ j.side .left = .seen ∧ j.tApply = some 0 :=
  ⟨(withPallet zTable .departing).setTableJob (some ⟨7, .fired, .seen, .fired, none, none, some 0, true⟩),
    ⟨7, .fired, .seen, .fired, none, none, some 0, true⟩, pal zTable, by decide +kernel⟩

/-! ### Release -/

theorem witness_ViewNotices_rise : ∃ (s : State) (src : Station) (load : BitVec 16) (k : BitVec 8) (e : LoadEntry), s.working = true
    ∧ src ≠ s.own ∧ load ≠ 0 ∧ k ≠ 0 ∧ s.loadEntry load = some e ∧ e.next ≤ k.toNat :=
  ⟨atFront .waiting 1, 5, 215, 255, ⟨215, 1, 8, none, 1, false⟩, by decide +kernel⟩
theorem witness_ViewNotices_late : ∃ (s : State) (src : Station) (load : BitVec 16) (k : BitVec 8) (e : LoadEntry), s.working = true
    ∧ src ≠ s.own ∧ load ≠ 0 ∧ k ≠ 0 ∧ s.loadEntry load = some e ∧ k.toNat < e.next :=
  ⟨atFront .waiting 256, 5, 215, 255, ⟨215, 256, 8, none, 1, false⟩, by decide +kernel⟩
theorem witness_ViewNotices_abandon : ∃ (s : State) (src : Station) (load : BitVec 16) (k : BitVec 8) (e : LoadEntry) (since : Ms),
    s.working = true ∧ src ≠ s.own ∧ load ≠ 0 ∧ k ≠ 0 ∧ s.loadEntry load = some e ∧ e.claim = some ⟨src, k, since⟩ :=
  ⟨{ atFront .waiting 2 with view := ⟨[⟨215, 2, 8, some ⟨5, 2, 0⟩, 1, false⟩], 0⟩ }, 5, 215, 2, ⟨215, 2, 8, some ⟨5, 2, 0⟩, 1, false⟩, 0,
    by decide +kernel⟩
theorem witness_ViewNotices_skip : ∃ (s : State) (load n : BitVec 16) (e : LoadEntry), s.working = true ∧ offered s 5 15
    ∧ load ≠ 0 ∧ s.loadEntry load = some e ∧ e.next < n.toNat ∧ n.toNat ≤ 256 ∧ 0 < e.count :=
  ⟨atFront .waiting 1, 215, 256, ⟨215, 1, 8, none, 1, false⟩, by decide +kernel, by unfold offered; decide +kernel, by decide +kernel⟩
theorem witness_ViewNotices_close : ∃ (s : State) (load n : BitVec 16) (e : LoadEntry), s.working = true ∧ offered s 5 15
    ∧ load ≠ 0 ∧ s.loadEntry load = some e ∧ 1 ≤ n.toNat ∧ n.toNat ≤ e.next ∧ n.toNat ≤ 256 ∧ e.count = 0 :=
  ⟨{ lane .running with view := ⟨[⟨215, 2, 8, none, 0, false⟩], 0⟩ }, 215, 1, ⟨215, 2, 8, none, 0, false⟩, by decide +kernel,
    by unfold offered; decide +kernel, by decide +kernel⟩
theorem witness_ViewNotices_unknown : ∃ s : State, s.working = true ∧ offered s 5 15 ∧ s.loadEntry 9 = none :=
  ⟨lane .running, by decide +kernel, by unfold offered; decide +kernel, by decide +kernel⟩
theorem witness_ViewNotices_refused : ∃ (s : State) (load : BitVec 16) (k : BitVec 8), s.working = true ∧ offered s 5 15
    ∧ load ≠ 0 ∧ k = 0 ∧ 256 < (257#16).toNat :=
  ⟨atFront .waiting 1, 215, 0, by decide +kernel, by unfold offered; decide +kernel, by decide⟩
theorem witness_ViewNotices_clears : ∃ (s : State) (src : Station) (load : BitVec 16) (k : BitVec 8) (e : LoadEntry), s.working = true
    ∧ src ≠ s.own ∧ load ≠ 0 ∧ k ≠ 0 ∧ s.loadEntry load = some e ∧ k.toNat < e.next ∧ e.next ≤ 256
    ∧ ∃ c, e.claim = some c ∧ c.seq = k :=
  ⟨{ atFront .waiting 2 with view := ⟨[⟨215, 256, 8, some ⟨5, 255, 0⟩, 1, false⟩], 0⟩ }, 5, 215, 255,
    ⟨215, 256, 8, some ⟨5, 255, 0⟩, 1, false⟩, by decide +kernel, by decide +kernel, by decide, by decide, by decide +kernel,
    by decide, by decide, ⟨5, 255, 0⟩, rfl, rfl⟩
theorem witness_FrontLosesClaim_overtaken : ∃ (s : State) (src : Station) (k : BitVec 8) (p : PalletRecord) (m : Manifest)
    (e : LoadEntry), live s ∧ src ≠ s.own ∧ m.load ≠ 0 ∧ k ≠ 0 ∧ s.pallet zFront = some p ∧ p.manifest = some m
    ∧ p.stage = .claimWon ∧ s.loadEntry m.load = some e ∧ e.next ≤ m.seq.toNat ∧ m.seq.toNat ≤ k.toNat ∧ room s :=
  ⟨atFront .claimWon 2, 5, 2, { pal zFront with stage := .claimWon }, man, ⟨215, 2, 8, none, 1, false⟩, .inr (.inl rfl),
    by decide +kernel, by decide +kernel, by decide +kernel, by decide +kernel, by decide +kernel, by decide +kernel, by decide +kernel, by decide +kernel, by decide +kernel,
    by unfold room; decide +kernel⟩
theorem witness_FrontLosesClaim_otherRises : ∃ (s : State) (src : Station) (k : BitVec 8) (n : BitVec 16) (a : Manifest)
    (p : PalletRecord) (m : Manifest) (e : LoadEntry), live s ∧ offered s src 15 ∧ m.load ≠ 0 ∧ s.pallet zFront = some p
      ∧ p.manifest = some m ∧ p.stage = .claimQueued ∧ s.claimInFlight = true ∧ s.loadEntry m.load = some e
      ∧ e.next ≤ m.seq.toNat ∧ room s ∧ m.seq.toNat < k.toNat ∧ m.seq.toNat < n.toNat ∧ n.toNat ≤ 256 ∧ manifestOk a = true
      ∧ a.load = m.load ∧ m.seq.toNat < a.issueNext.toNat ∧ ∀ y ∈ s.tracker, y.ident ≠ a.ident :=
  ⟨claiming, 5, 3, 256, { man with issueNext := 3 }, { pal zFront with stage := .claimQueued }, man, ⟨215, 2, 8, none, 1, false⟩,
    .inr (.inl rfl), by unfold offered; decide +kernel, by decide, rfl, rfl, rfl, by decide +kernel, by decide +kernel, by decide,
    by unfold room; decide +kernel, by decide +kernel⟩
theorem witness_FrontLosesClaim_inFlight : ∃ (s : State) (src : Station) (p : PalletRecord) (m : Manifest) (e : LoadEntry), live s
    ∧ src ≠ s.own ∧ m.load ≠ 0 ∧ m.seq ≠ 0 ∧ s.pallet zFront = some p ∧ p.manifest = some m ∧ s.loadEntry m.load = some e
    ∧ e.next ≤ m.seq.toNat ∧ room s ∧ p.stage = .claimQueued ∧ s.claimInFlight = true ∧ s.rel.followUp = true :=
  ⟨claiming, 5, { pal zFront with stage := .claimQueued }, man, ⟨215, 2, 8, none, 1, false⟩, .inr (.inl rfl), by decide +kernel,
    by decide, by decide, rfl, rfl, by decide +kernel, by decide, by unfold room; decide +kernel, rfl, by decide +kernel, rfl⟩
theorem witness_FrontLosesClaim_foreign : ∃ (src : Station) (m : Manifest) (e : LoadEntry), m.load ≠ 0 ∧ m.seq ≠ 0
    ∧ e.next ≤ m.seq.toNat ∧ ∀ st ∈ [Stage.claimQueued, .claimWon, .exiting], src ≠ (atFront st 2).own
    ∧ (atFront st 2).pallet zFront = some { pal zFront with stage := st } ∧ (pal zFront).manifest = some m
    ∧ (atFront st 2).loadEntry m.load = some e ∧ (atFront st 2).claimInFlight = false :=
  ⟨5, man, ⟨215, 2, 8, none, 1, false⟩, by decide +kernel⟩
theorem witness_FrontLosesClaim_exiting : ∃ (s : State) (src : Station) (p : PalletRecord) (m : Manifest), live s ∧ src ≠ s.own
    ∧ m.load ≠ 0 ∧ m.seq ≠ 0 ∧ s.pallet zFront = some p ∧ p.manifest = some m ∧ p.stage = .exiting ∧ room s :=
  ⟨atFront .exiting 2, 5, { pal zFront with stage := .exiting }, man, .inr (.inl rfl), by decide +kernel, by decide, by decide, rfl,
    rfl, rfl, by unfold room; decide +kernel⟩
theorem witness_ClaimQueue : ∃ (s : State) (p : PalletRecord) (m : Manifest) (e : LoadEntry), s.mon.lane = .running
    ∧ s.zone zFront = .ready ∧ s.pallet zFront = some p ∧ p.stage = .waiting ∧ p.reasons = 0 ∧ p.manifest = some m
    ∧ s.loadEntry m.load = some e ∧ e.next = m.seq.toNat ∧ e.claim = none ∧ s.track.exitSlot = none ∧ s.rel.followUp = false
    ∧ s.mon.overflow = false ∧ (∀ x ∈ s.mon.faults, x.kind ≠ .addressClash) ∧ 2 ≤ s.seqFree :=
  ⟨atFront .waiting 2, pal zFront, man, ⟨215, 2, 8, none, 1, false⟩, by decide +kernel⟩
theorem witness_ClaimTimeout : ∃ (s : State) (load : BitVec 16) (e : LoadEntry) (c : ClaimHeld), s.working = true
    ∧ s.loadEntry load = some e ∧ e.claim = some c :=
  ⟨{ lane .running with view := ⟨[⟨215, 2, 8, some ⟨5, 2, 0⟩, 1, false⟩], 0⟩ }, 215, ⟨215, 2, 8, some ⟨5, 2, 0⟩, 1, false⟩, ⟨5, 2, 0⟩,
    by decide +kernel⟩
theorem witness_StallTimeout : ∃ (s : State) (p : PalletRecord) (m : Manifest) (e : LoadEntry) (since : Ms), s.working = true
    ∧ s.rel.stall = some since ∧ s.zone zFront = .ready ∧ s.pallet zFront = some p ∧ p.stage = .waiting ∧ p.reasons = 0
    ∧ p.manifest = some m ∧ s.loadEntry m.load = some e ∧ e.next < m.seq.toNat ∧ s.rel.force = false
    ∧ s.tx.ahead ≠ some s.clock ∧ 0 < s.seqFree :=
  ⟨{ atFront .waiting 1 with rel := ⟨false, false, some 3⟩ }, pal zFront, man, ⟨215, 1, 8, none, 1, false⟩, 3, by decide +kernel⟩
/-- A Sequence queue with every place taken. -/
def fullQueue : List Notice := List.replicate 8 (.stalled 9 1 1)

theorem witness_StallTimeout_full : ∃ (s : State) (p : PalletRecord) (m : Manifest) (e : LoadEntry) (since : Ms), s.working = true
    ∧ s.rel.stall = some since ∧ s.zone zFront = .ready ∧ s.pallet zFront = some p ∧ p.stage = .waiting ∧ p.reasons = 0
    ∧ p.manifest = some m ∧ s.loadEntry m.load = some e ∧ e.next < m.seq.toNat ∧ s.rel.force = false
    ∧ s.tx.ahead ≠ some s.clock ∧ s.seqFree = 0 :=
  ⟨{ atFront .waiting 1 with rel := ⟨false, false, some 3⟩, tx := { State.reset.tx with sequence := fullQueue } }, pal zFront, man,
    ⟨215, 1, 8, none, 1, false⟩, 3, by decide +kernel⟩
theorem witness_StallTimeout_ahead : ∃ s : State, s.working = true ∧ s.tx.ahead = some s.clock :=
  ⟨{ lane .running with tx := { State.reset.tx with ahead := some 0 } }, by decide +kernel⟩
/-- A rejected record waits in DIVERT for a place, and a Stalled notice of this instant has found none. -/
def placeWaited : State :=
  let s := sending ((withPallet zDivert .ready).addReason zDivert .voided) .sequence
  { s with tx := { s.tx with sequence := fullQueue, unplaced := some ⟨215, 2, 1, 0⟩ } }

theorem witness_Stall_joins : ∃ (s : State) (rest : List Notice) (d : PalletRecord), s.mon.lane = .running
    ∧ s.line.state = .send ∧ s.line.inFlight = some .sequence ∧ s.tx.sequence = .stalled 9 1 1 :: rest ∧ s.seqUsed = 8
    ∧ s.zone zDivert = .ready ∧ s.pallet zDivert = some d ∧ d.reasons ≠ 0 ∧ d.manifest = some man
    ∧ s.tx.rejectReserved = false ∧ s.inp.rejectFull = false ∧ s.inp.rejectEye = false
    ∧ s.tx.unplaced = some ⟨215, 2, 1, s.clock⟩ :=
  ⟨placeWaited, fullQueue.tail, { (pal 4) with reasons := Reason.voided.word }, by decide +kernel⟩
-- R137: the Stalled notice that joins first takes the place, and the reject transfer waits on
theorem test_stalled_first : (placeWaited.removeHead .sequence).joinStalled.finish.seq.reject = .idle := by decide +kernel
-- R137: the reject transfer taken first reserves it, and the Stalled notice finds none
theorem test_reject_first : (placeWaited.removeHead .sequence).tryJoins.joinStalled.tx.sequence = fullQueue.tail := by decide +kernel
theorem witness_OwnNotice_claim : ∃ (s : State) (p : PalletRecord), s.working = true ∧ s.line.state = .send
    ∧ s.line.inFlight = some .sequence ∧ s.tx.sequence = [.claim 215 2 false 77] ∧ s.line.marked = false
    ∧ s.pallet zFront = some p ∧ p.stage = .claimQueued ∧ p.manifest = some man ∧ man.load = 215 ∧ man.seq = 2 :=
  ⟨claiming, { pal zFront with stage := .claimQueued }, by decide +kernel⟩
/-- The station's Claim has been marked for removal while it is sent, and the FRONT record waits again. -/
def markedClaim (l : LaneState) (next : Nat) : State :=
  let s := sending (atFront .waiting next) .sequence
  { s with
    tx := { s.tx with sequence := [.claim 215 2 false 77] }, rel := ⟨true, false, none⟩
    line := { s.line with marked := true }, mon := { s.mon with lane := l } }

/-- What every clause on a marked Claim asks of the state. -/
def Marked (s : State) : Prop :=
  s.working = true ∧ s.line.state = .send ∧ s.line.inFlight = some .sequence ∧ s.tx.sequence = [.claim 215 2 false 77]
    ∧ s.line.marked = true ∧ s.rel.followUp = true

theorem waits_of_front {s : State} {q : PalletRecord} (h : s.pallet zFront = some q) (hq : q.stage = .waiting) :
    ∀ p, s.pallet zFront = some p → p.stage = .waiting := by
  intro p hp; obtain rfl := Option.some.inj (h.symm.trans hp); exact hq

theorem witness_OwnNotice_markedFault : ∃ s : State, Marked s ∧ (∀ p, s.pallet zFront = some p → p.stage = .waiting)
    ∧ s.mon.lane = .fault :=
  ⟨markedClaim .fault 2, by unfold Marked; decide +kernel, waits_of_front (q := pal zFront) rfl rfl, rfl⟩
theorem witness_OwnNotice_markedWins : ∃ (s : State) (p : PalletRecord) (m : Manifest) (e : LoadEntry), Marked s
    ∧ s.pallet zFront = some p ∧ p.stage = .waiting ∧ s.mon.lane ≠ .fault ∧ s.loadEntry 215 = some e ∧ e.next ≤ 2
    ∧ p.manifest = some m ∧ p.reasons = 0 ∧ m.load = 215 ∧ m.seq = 2 :=
  ⟨markedClaim .running 2, pal zFront, man, ⟨215, 2, 8, none, 1, false⟩, by unfold Marked; decide +kernel, by decide +kernel⟩
theorem witness_OwnNotice_markedAbandoned : ∃ (s : State) (p : PalletRecord) (e : LoadEntry), Marked s
    ∧ s.pallet zFront = some p ∧ p.stage = .waiting ∧ s.mon.lane ≠ .fault ∧ s.loadEntry 215 = some e ∧ e.next ≤ 2
    ∧ p.reasons ≠ 0 :=
  ⟨(markedClaim .running 2).addReason zFront .voided, (pal zFront).addReason .voided, ⟨215, 2, 8, none, 1, false⟩,
    by unfold Marked; decide +kernel, by decide +kernel⟩
theorem witness_OwnNotice_markedGone : ∃ (s : State) (e : LoadEntry), Marked s
    ∧ (∀ p, s.pallet zFront = some p → p.stage = .waiting) ∧ s.mon.lane ≠ .fault ∧ s.mon.lane ≠ .running
    ∧ s.loadEntry 215 = some e ∧ 2 < e.next ∧ e.claim = none :=
  ⟨markedClaim .stopped 3, ⟨215, 3, 8, none, 1, false⟩, by unfold Marked; decide +kernel,
    waits_of_front (q := pal zFront) rfl rfl, by decide +kernel⟩
theorem witness_OwnNotice_pointer : ∀ row ∈ servedRows, ∃ s : State, s.working = true ∧ s.line.state = .send
    ∧ s.line.inFlight = some row.2.1 ∧ s.cfg.arbMode = row.1 := by
  intro row _
  exact ⟨sending { lane .running with image := some { img with arbMode := row.1 } } row.2.1, rfl, rfl, rfl, rfl⟩
theorem witness_OwnNotice_released : ∃ (s : State) (p : PalletRecord), s.working = true ∧ s.line.state = .send
    ∧ s.line.inFlight = some .sequence ∧ s.tx.sequence = [.released 215 2] ∧ s.track.exitSlot = some p ∧ p.manifest = some man
    ∧ s.ring.records.length < 32 ∧ man.load = 215 ∧ man.seq = 2 :=
  ⟨sending { (atFront .exiting 2).startExit.completeExit with tx := { State.reset.tx with sequence := [.released 215 2] } } .sequence,
    { pal zFront with zone := 9, stage := .exited }, by decide +kernel⟩
theorem witness_OwnNotice_request : ∃ (s : State) (e : TrackEntry), s.working = true ∧ s.line.state = .send
    ∧ s.line.inFlight = some .request ∧ s.tx.request = [.manifestRequest 77 7] ∧ e ∈ s.tracker ∧ e.tag = 7 :=
  ⟨sending { requesting 2 with tx := { State.reset.tx with request := [.manifestRequest 77 7] } } .request, ⟨77, 7, 2, true, some 0⟩,
    by decide +kernel⟩
theorem witness_OwnNotice_report : ∃ s : State, s.working = true ∧ s.line.state = .send ∧ s.line.inFlight = some .report
    ∧ s.tx.report = [.faultReport []] :=
  ⟨sending { lane .running with tx := { State.reset.tx with report := [.faultReport []] } } .report, by decide +kernel⟩
theorem witness_LineWaits_search : ∀ row ∈ searchRows, ∃ s : State, s.cfg.arbMode = row.1 ∧ s.tx.pointer = row.2.1 := by
  intro row _
  exact ⟨{ lane .running with
    image := some { img with arbMode := row.1 }, tx := { State.reset.tx with pointer := row.2.1 } }, rfl, rfl⟩
theorem witness_LineWaits : ∃ s : State, s.working = true ∧ s.line.state = .defer ∧ s.line.activity = false
    ∧ s.choose = some .report ∧ s.line.trainPos < 4 :=
  ⟨((lane .running).joinReport (.faultReport [])).deferOrIdle, by decide +kernel⟩
theorem witness_LineWaits_backoff : ∃ s : State, s.working = true ∧ s.line.state = .backoff ∧ s.line.activity = false
    ∧ s.line.restartSrc = some .report ∧ s.ready .report = true :=
  ⟨(sending ((lane .running).joinReport (.faultReport [])) .report).countAbort .report, by decide +kernel⟩
theorem witness_LineWaits_gap : ∃ s : State, s.working = true ∧ s.line.state = .gap ∧ s.line.trainPos < 4 ∧ s.choose = some .report :=
  ⟨((lane .running).joinReport (.faultReport [])).creditLine, by decide +kernel⟩
theorem witness_LineWaits_trainEnds : ∃ s : State, s.working = true ∧ s.line.state = .gap ∧ s.choose = none :=
  ⟨(lane .running).creditLine, by decide +kernel⟩
theorem witness_LineWaits_gapActivity : ∃ s : State, s.working = true ∧ s.line.state = .gap ∧ s.ready .report = true :=
  ⟨((lane .running).joinReport (.faultReport [])).creditLine, by decide +kernel⟩
theorem witness_Collision_marked : ∃ s : State, s.working = true ∧ s.line.state = .send ∧ s.line.inFlight = some .sequence
    ∧ s.line.marked = true ∧ s.tx.sequence = [.claim 215 2 false 77] ∧ Notice.isClaim (.claim 215 2 false 77) = true
    ∧ s.mon.lane ≠ .running :=
  ⟨{ claiming with line := { claiming.line with marked := true }, mon := { claiming.mon with lane := .stopped } }, by decide +kernel⟩
theorem witness_Collision_markedRunning : ∃ s : State, s.working = true ∧ s.line.state = .send ∧ s.line.inFlight = some .sequence
    ∧ s.line.marked = true ∧ s.tx.sequence = [.claim 215 2 false 77] ∧ s.mon.lane = .running ∧ s.inp.mergeClear = false
    ∧ s.frontStage = some .waiting :=
  ⟨markedClaim .running 2, by decide +kernel⟩
theorem witness_Collision_markedRequest : ∃ s : State, s.working = true ∧ s.line.state = .send ∧ s.line.inFlight = some .request
    ∧ s.line.marked = true ∧ s.tx.request = [.manifestRequest 77 7] ∧ ∀ y ∈ s.tracker, y.joined = true :=
  ⟨(sending { requesting 2 with tx := { State.reset.tx with request := [.manifestRequest 77 7] } } .request).freeEntry 7,
    by decide +kernel⟩
theorem witness_NoticesNotTaken : ∃ (s : State) (src : Station) (levels : List Bool) (code : Byte), s.working = true ∧ src ≠ s.own
    ∧ receiveLevels levels = none ∧ s.line.state ≠ .send ∧ room s ∧ offered s src 15 ∧ 6 < code.toNat :=
  ⟨lane .running, 12, [true], 7, by decide +kernel, by decide +kernel, by decide +kernel, by decide +kernel, by unfold room; decide +kernel,
    by unfold offered; decide +kernel, by decide⟩

/-! ### Lane commands and status -/

theorem witness_StartAndStop_accepted : ∃ s : State, s.working = true ∧ offered s 12 15 ∧ s.mon.lane = .stopped
    ∧ (∀ e ∈ s.mon.faults, e.kind.immediate = false) ∧ s.inp.estop = false ∧ s.frontDuplicate = false
    ∧ (∀ z, (s.transfer z).isAbandoned = false) ∧ s.seq.reject.isAbandoned = false ∧ s.wrap.state = .idle ∧ s.wrap.homed = false
    ∧ s.inp.mastHome = false ∧ s.seq.exit.isAbandoned = true :=
  ⟨{ lane .stopped with seq := { State.reset.seq with exit := .abandoned none } }, by decide +kernel, by unfold offered; decide +kernel,
    by decide +kernel⟩
theorem witness_StartAndStop_refused : ∃ s : State, s.working = true ∧ offered s 12 15 ∧ s.mon.lane ≠ .stopped
    ∧ s.mon.lane ≠ .running :=
  ⟨lane .fault, by decide +kernel, by unfold offered; decide +kernel, by decide +kernel⟩
/-- A stopped lane with the transfer out of the zone abandoned, the wrap idle and homed as given. -/
def stoppedTransfer (z : Fin 8) (p : PalletRecord) (homed : Bool) : State :=
  let s := ((((lane .stopped).setPallet (srcZone z) (some p)).setZone (srcZone z) .departing).setZone (dstZone z) .arriving).setTransfer z
    (.abandoned none)
  { s with wrap := { s.wrap with homed := homed } }

/-- What every clause on an abandoned transfer asks of the state. -/
def Abandoned (s : State) (z : Fin 8) (p : PalletRecord) : Prop :=
  offered s 12 15 ∧ startAccepted s ∧ (∀ y, y ≠ z → (s.transfer y).isAbandoned = false) ∧ (s.transfer z).isAbandoned = true
    ∧ s.seq.reject.isAbandoned = false ∧ s.pallet (srcZone z) = some p

theorem witness_StartAndStop_completes : ∀ tail ∈ [true, false], ∃ (s : State) (p : PalletRecord), Abandoned s 5 p
    ∧ s.eye 6 = true ∧ s.eye 5 = tail ∧ room s := by
  intro tail _
  refine ⟨((stoppedTransfer 5 (pal 5) true).setEye (.zone 6) true).setEye (.zone 5) tail, pal 5, ?_, ?_⟩
  · unfold Abandoned offered startAccepted; decide +revert +kernel
  · unfold room; decide +revert +kernel
theorem witness_StartAndStop_atFront : ∃ (s : State) (p : PalletRecord), Abandoned s 7 p ∧ s.eye 8 = true ∧ s.eye 7 = true
    ∧ s.mon.faults.length ≤ 6 :=
  ⟨((stoppedTransfer 7 (pal 7) true).setEye (.zone 8) true).setEye (.zone 7) true, pal 7,
    by unfold Abandoned offered startAccepted; decide +kernel, by decide +kernel⟩
theorem witness_StartAndStop_goesOn : ∀ z ∈ [(1 : Fin 8), 2, 4, 5], ∃ (s : State) (p : PalletRecord), Abandoned s z p
    ∧ s.eye (dstZone z) = false ∧ goesOn s z p := by
  intro z _
  refine ⟨stoppedTransfer z { pal (srcZone z) with label := .notNeeded } true, { pal (srcZone z) with label := .notNeeded }, ?_, ?_, ?_⟩
  · unfold Abandoned offered startAccepted; decide +revert +kernel
  · decide +revert +kernel
  · exact ⟨fun _ => ⟨.inl rfl, .inl rfl⟩, fun _ => .inl (by simp), fun _ => rfl⟩
theorem witness_StartAndStop_homingHolds : ∀ z ∈ [(1 : Fin 8), 2], ∃ (s : State) (p : PalletRecord), Abandoned s z p
    ∧ s.eye (dstZone z) = false ∧ s.wrap.homed = false ∧ s.inp.mastHome = false := by
  intro z _
  refine ⟨stoppedTransfer z (pal (srcZone z)) false, pal (srcZone z), ?_, ?_⟩
  · unfold Abandoned offered startAccepted; decide +revert +kernel
  · decide +revert +kernel
theorem witness_StartAndStop_divert : ∀ full ∈ [true, false], ∃ (s : State) (p : PalletRecord), Abandoned s 4 p
    ∧ s.eye 5 = false ∧ p.reasons ≠ 0 ∧ s.inp.rejectFull = full ∧ s.inp.rejectEye = false ∧ 3 ≤ s.seqFree := by
  intro full _
  refine ⟨{ stoppedTransfer 4 ((pal 4).addReason .voided) true with inp := { Inputs.startUp with rejectFull := full } },
    (pal 4).addReason .voided, ?_, ?_⟩
  · unfold Abandoned offered startAccepted; decide +revert +kernel
  · decide +revert +kernel

/-- A stopped lane with the reject transfer abandoned. -/
def stoppedReject (eye full : Bool) : State :=
  let s := ((withPallet zDivert .ready).addReason zDivert .voided).startReject true
  { s with
    seq := { s.seq with reject := .abandoned none }, mon := { s.mon with lane := .stopped }
    inp := { s.inp with rejectEye := eye, rejectFull := full } }

theorem witness_StartAndStop_reject : ∀ eye ∈ [true, false], ∀ full ∈ [true, false], ∃ (s : State) (p : PalletRecord),
    offered s 12 15 ∧ startAccepted s ∧ (∀ z, (s.transfer z).isAbandoned = false) ∧ s.seq.reject.isAbandoned = true
    ∧ s.pallet zDivert = some p ∧ p.reasons ≠ 0 ∧ p.manifest ≠ none ∧ s.tx.rejectReserved = true ∧ s.inp.rejectEye = eye
    ∧ s.inp.rejectFull = full ∧ room s := by
  intro eye _ full _
  refine ⟨stoppedReject eye full, (pal zDivert).addReason .voided, ?_⟩
  unfold offered startAccepted room; decide +revert +kernel
theorem witness_Ack : ∃ s : State, s.working = true ∧ s.mon.lane = .fault ∧ s.inp.ackPush = false ∧ offered s 12 15 :=
  ⟨lane .fault, by decide +kernel, rfl, by decide +kernel, by unfold offered; decide +kernel⟩
theorem witness_ForceRelease_accepted : ∃ s : State, s.working = true ∧ offered s 12 15 ∧ s.mon.lane = .running
    ∧ s.frontReleasable = true ∧ s.noStage = true ∧ s.rel.followUp = false :=
  ⟨atFront .waiting 1, by decide +kernel, by unfold offered; decide +kernel, by decide +kernel⟩
theorem witness_ForceRelease_busy : ∃ s : State, s.working = true ∧ offered s 12 15 ∧ s.mon.lane = .running
    ∧ s.frontReleasable = true ∧ s.noStage = false :=
  ⟨atFront .claimWon 1, by decide +kernel, by unfold offered; decide +kernel, by decide +kernel⟩
theorem witness_ForceRelease_nothing : ∃ s : State, s.working = true ∧ offered s 12 15 ∧ s.mon.lane = .running
    ∧ s.frontReleasable = false :=
  ⟨lane .running, by decide +kernel, by unfold offered; decide +kernel, by decide +kernel⟩

/-- A stopped lane with the record at FRONT in CLAIM_WON. -/
def stoppedWon : State :=
  { atFront .claimWon 2 with rel := ⟨true, false, none⟩, mon := { State.reset.mon with lane := .stopped } }

theorem witness_Purge_accepted : ∃ (s : State) (zone : Byte) (z : Fin 9) (p : PalletRecord) (m : Manifest), s.working = true
    ∧ offered s 12 15 ∧ s.mon.lane = .stopped ∧ z.val = zone.toNat ∧ s.pallet z = some p ∧ s.eye z = false
    ∧ p.stage ≠ .exiting ∧ s.ring.records.length < 32 ∧ recordsFit s ∧ p.manifest = some m ∧ p.stage = .claimWon
    ∧ s.rel.followUp = true :=
  ⟨stoppedWon, 8, 8, { pal zFront with stage := .claimWon }, man, by decide +kernel, by unfold offered; decide +kernel, by decide +kernel,
    by decide +kernel, by decide +kernel, by decide +kernel, by decide +kernel, by decide +kernel, recordsFit_of_check _ (by decide +kernel),
    by decide +kernel⟩
theorem witness_Purge_fullRing : ∃ (s : State) (zone : Byte) (z : Fin 9) (p : PalletRecord) (e : LoadEntry), s.working = true
    ∧ offered s 12 15 ∧ s.mon.lane = .stopped ∧ z.val = zone.toNat ∧ s.pallet z = some p ∧ s.eye z = false
    ∧ p.stage ≠ .exiting ∧ recordsFit s ∧ s.ring.records.length = 32 ∧ p.manifest = some man ∧ s.loadEntry man.load = some e
    ∧ 1 < e.count :=
  ⟨{ (fullRing none).setPallet 4 (some (pal 4)) with view := ⟨[⟨215, 2, 8, none, 2, true⟩], 0⟩ }, 4, 4, pal 4,
    ⟨215, 2, 8, none, 2, true⟩, by decide +kernel, by unfold offered; decide +kernel, rfl, rfl, rfl, by decide +kernel, by decide,
    recordsFit_of_check _ (by decide +kernel), by decide +kernel⟩
theorem witness_Purge_zone : ∃ (s : State) (zone : Byte), s.working = true ∧ offered s 12 15 ∧ s.mon.lane = .fault
    ∧ 9 ≤ zone.toNat :=
  ⟨lane .fault, 9, by decide +kernel, by unfold offered; decide +kernel, by decide +kernel⟩
theorem witness_LaneRestart : ∃ (s : State) (z y : Fin 9) (p : PalletRecord) (m : Manifest), s.working = true ∧ offered s 12 15
    ∧ s.inp.restartPush = false ∧ s.mon.lane = .stopped ∧ s.eye z = true ∧ s.eye y = false ∧ s.pallet zFront = some p
    ∧ p.manifest = some m ∧ p.stage = .claimWon ∧ s.ring.records.length ≤ 22 :=
  ⟨stoppedWon.setEye (.zone 3) true, 3, 4, { pal zFront with stage := .claimWon }, man, by decide +kernel, by unfold offered; decide +kernel,
    by decide +kernel⟩
theorem witness_StatusReplies : ∃ (s : State) (c : Instr) (parts : List (List Byte)), s.working = true ∧ offered s 12 15
    ∧ (c, parts) = (Instr.statusZone 12 15 2, zoneReply 2 (s.heard 12)) :=
  ⟨withPallet zTable .ready, _, _, by decide +kernel, by unfold offered; decide +kernel, rfl⟩
theorem witness_StatusReplies_faults : ∃ (s : State) (e : FaultEntry), s.mon.faults[(0 : Byte).toNat]? = some e
    ∧ s.mon.faults.length ≤ (7 : Byte).toNat :=
  ⟨(lane .stopped).raise .estop none, ⟨.estop, none, 1, 0, true⟩, by decide +kernel⟩
theorem witness_StatusReplies_view : ∃ (s : State) (e : LoadEntry), s.view.entries[(0 : Byte).toNat]? = some e
    ∧ s.view.entries.length ≤ (15 : Byte).toNat :=
  ⟨atFront .waiting 2, ⟨215, 2, 8, none, 1, false⟩, by decide +kernel⟩
theorem witness_StatusReplies_ends : ∃ (i : Fin 16) (w : Fin 4) (z : Fin 9), (63 : Byte).toNat = 4 * i.val + w.val
    ∧ (8 : Byte).toNat = z.val ∧ 10 ≤ (10 : Byte).toNat ∧ 64 ≤ (64 : Byte).toNat ∧ 16 ≤ (16 : Byte).toNat :=
  ⟨15, 3, 8, by decide⟩

theorem witness_NoticesDecode_body : ∀ row ∈ [(1, 4), (6, 6), (9, 6), (10, 28), (11, 8), (13, 28)],
    ∃ (kind : Fin 15) (body : List Byte), kind.val = row.1 ∧ body.length = row.2 := by
  intro row h
  exact ⟨Fin.ofNat 15 row.1, List.replicate row.2 0, by decide +revert, by decide +revert⟩
theorem witness_NoticesDecode_unassigned : ∃ code : Byte, 5 < code.toNat ∧ 6 < code.toNat := ⟨7, by decide⟩
theorem witness_NoticesDecode_own : (∃ b : List Byte, Notice.faultReport b = .faultReport b ∧ b.length = 8)
    ∧ ∃ (d : Station) (dst : BitVec 4) (b : List Byte), Notice.statusReply d b = .statusReply d b ∧ b.length = 28 ∧ dst.toNat = d.val :=
  ⟨⟨List.replicate 8 0, rfl, rfl⟩, 14, 14, List.replicate 28 0, rfl, rfl, rfl⟩

end Sys2Proof.Tests
end

section
/-! SUPPORT. The replacement bits of the Manifest Cache (R34 to R36): the way that a manifest is written to, what a write
does to its set, and that no lookup, consumption, Void or probe touches the bits. -/

namespace Sys2Proof.Machine

/-! ## One set: the choice of a way and the write (R35, R36) -/

/-- The ways are searched in their order: the first that satisfies `p` is found. -/
theorem find?_allWays_eq_some {p : Fin 4 → Bool} {w : Fin 4} (hw : p w = true) (hlt : ∀ v < w, p v = false) :
    allWays.find? p = some w := by
  match w with
  | 0 => simp [allWays, hw]
  | 1 => simp [allWays, hw, hlt 0 (by decide)]
  | 2 => simp [allWays, hw, hlt 0 (by decide), hlt 1 (by decide)]
  | 3 => simp [allWays, hw, hlt 0 (by decide), hlt 1 (by decide), hlt 2 (by decide)]

theorem CacheSet.findWay_eq_some {c : CacheSet} {ident : BitVec 32} {w : Fin 4} (hv : (c.ways[w.val]).valid = true)
    (hi : (c.ways[w.val]).ident = ident)
    (hlt : ∀ v < w, (c.ways[v.val]).valid = true → (c.ways[v.val]).ident ≠ ident) : c.findWay ident = some w :=
  find?_allWays_eq_some (by simp [hv, hi]) (by simpa using hlt)

theorem CacheSet.findWay_eq_none {c : CacheSet} {ident : BitVec 32} (h : ∀ v : Fin 4, (c.ways[v.val]).ident ≠ ident) :
    c.findWay ident = none := by
  simp [CacheSet.findWay, h]

theorem CacheSet.freeWay_eq_some {c : CacheSet} {w : Fin 4} (hw : (c.ways[w.val]).valid = false)
    (hlt : ∀ v < w, (c.ways[v.val]).valid = true) : c.freeWay = some w :=
  find?_allWays_eq_some (by simp [hw]) (by simpa using hlt)

theorem CacheSet.freeWay_eq_none {c : CacheSet} (h : ∀ v : Fin 4, (c.ways[v.val]).valid = true) : c.freeWay = none := by
  simp [CacheSet.freeWay, h]

/-- A manifest whose ident is held is written in place (R35). -/
theorem CacheSet.target_of_held {c : CacheSet} {ident : BitVec 32} {w : Fin 4} (h : c.findWay ident = some w) :
    c.target ident = w := by
  simp [CacheSet.target, h]

/-- One that is not held is written to the lowest invalid way, where there is one (R35). -/
theorem CacheSet.target_of_free {c : CacheSet} {ident : BitVec 32} {w : Fin 4} (h : c.findWay ident = none)
    (hw : c.freeWay = some w) : c.target ident = w := by
  simp [CacheSet.target, h, hw]

/-- Only a full set asks its replacement bits (R35). -/
theorem CacheSet.target_of_full {c : CacheSet} {ident : BitVec 32} (h : c.findWay ident = none) (hf : c.freeWay = none) :
    c.target ident = c.victim := by
  simp [CacheSet.target, h, hf]

/-- The victim by the tree of the bits: b0 chooses the pair, b1 or b2 the way in it (R35). -/
theorem CacheSet.victim_eq (c : CacheSet) :
    c.victim = if c.b0 = false then (if c.b1 = false then 0 else 1) else (if c.b2 = false then 2 else 3) := by
  cases h0 : c.b0 <;> cases h1 : c.b1 <;> cases h2 : c.b2 <;> simp [CacheSet.victim, h0, h1, h2]

/-- Pointing the bits away writes no way (R36). -/
@[simp] theorem CacheSet.pointAway_ways (c : CacheSet) (w : Fin 4) : (c.pointAway w).ways = c.ways := by
  unfold CacheSet.pointAway
  split <;> rfl

/-- The write, with the way it goes to named (R35, R36). -/
theorem CacheSet.store_of_target {c : CacheSet} {m : Manifest} {w : Fin 4} (h : c.target m.ident = w) :
    c.store m = { c with ways := c.ways.set w.val ⟨true, m.ident, m⟩ w.isLt }.pointAway w := by
  subst h; rfl

@[simp] theorem CacheSet.store_ways (c : CacheSet) (m : Manifest) :
    (c.store m).ways = c.ways.set (c.target m.ident).val ⟨true, m.ident, m⟩ (c.target m.ident).isLt := by
  simp [CacheSet.store]

theorem CacheSet.store_way_other {c : CacheSet} {m : Manifest} {w : Fin 4} (h : w ≠ c.target m.ident) :
    (c.store m).ways[w.val] = c.ways[w.val] := by
  have hval : (c.target m.ident).val ≠ w.val := fun e => h (Fin.ext e.symm)
  simp [hval]

/-- The three replacement bits of a set. -/
def CacheSet.bits (c : CacheSet) : Bool × Bool × Bool := (c.b0, c.b1, c.b2)

theorem CacheSet.bits_eq_iff {c d : CacheSet} : c.bits = d.bits ↔ c.b0 = d.b0 ∧ c.b1 = d.b1 ∧ c.b2 = d.b2 := by
  simp [CacheSet.bits]

/-- Clearing a valid flag leaves the bits (R36, R39). -/
@[simp] theorem CacheSet.invalidate_bits (c : CacheSet) (w : Fin 4) : (c.invalidate w).bits = c.bits := rfl

/-! ## The operations that write the cache -/

/-- The two states agree on every set's replacement bits. -/
def State.KeepsCacheBits (s t : State) : Prop := ∀ i, (t.cacheSet i).bits = (s.cacheSet i).bits

theorem State.cacheSet_congr {s t : State} (h : t.cache = s.cache) (i : Fin 16) : t.cacheSet i = s.cacheSet i := by
  simp [State.cacheSet, h]

theorem State.KeepsCacheBits.of_cache_eq {s t : State} (h : t.cache = s.cache) : s.KeepsCacheBits t :=
  fun i => congrArg CacheSet.bits (State.cacheSet_congr h i)

theorem State.KeepsCacheBits.trans {s t u : State} (h : s.KeepsCacheBits t) (h' : t.KeepsCacheBits u) :
    s.KeepsCacheBits u :=
  fun i => (h' i).trans (h i)

theorem State.setCacheSet_keepsCacheBits {s : State} {k : Fin 16} {c : CacheSet} (h : c.bits = (s.cacheSet k).bits) :
    s.KeepsCacheBits (s.setCacheSet k c) := by
  intro i
  by_cases hi : i = k
  · simp [hi, h]
  · simp [hi]

theorem State.consume_keepsCacheBits (s : State) (z : Fin 9) (ident : BitVec 32) (w : Fin 4) :
    s.KeepsCacheBits (s.consume z ident w) := by
  let p := s.updPallet z (fun p => { p with manifest := some ((s.cacheSet (setOf ident)).ways[w.val]).manifest })
  have hp : s.KeepsCacheBits p := .of_cache_eq (by simp [p])
  have hset : p.KeepsCacheBits (p.setCacheSet (setOf ident) ((s.cacheSet (setOf ident)).invalidate w)) :=
    State.setCacheSet_keepsCacheBits (by rw [CacheSet.invalidate_bits, hp])
  exact (hp.trans hset).trans (.of_cache_eq (by simp [State.consume, p]))

theorem State.identify_keepsCacheBits (s : State) (ident : BitVec 32) (tag : BitVec 8) :
    s.KeepsCacheBits (s.identify ident tag) := by
  unfold State.identify
  split
  case isTrue => exact .of_cache_eq (by simp)
  case isFalse =>
    split
    case h_1 w _ => exact s.consume_keepsCacheBits zIn ident w
    case h_2 => exact .of_cache_eq (by simp)

theorem State.resolveRead_keepsCacheBits (s : State) (ident : BitVec 32) : s.KeepsCacheBits (s.resolveRead ident) := by
  unfold State.resolveRead
  split
  case h_1 => exact .of_cache_eq rfl
  case h_2 tag _ =>
    split
    case isTrue => exact .of_cache_eq (by simp)
    case isFalse =>
      have hident := (s.updPallet zIn (fun p => { p with ident := some ident })).identify_keepsCacheBits ident tag
      exact ((State.KeepsCacheBits.of_cache_eq (by simp)).trans hident).trans (.of_cache_eq (by simp))

theorem State.deliver_keepsCacheBits (s : State) (ident : BitVec 32) : s.KeepsCacheBits (s.deliver ident) := by
  unfold State.deliver
  split
  case h_1 => exact .of_cache_eq rfl
  case h_2 =>
    split
    case h_1 z w _ _ => exact (s.consume_keepsCacheBits z ident w).trans (.of_cache_eq (by simp))
    case h_2 => exact .of_cache_eq (by simp)

/-- A manifest that no tracker entry waits for is delivered to none (R44). -/
theorem State.deliver_of_not_awaited {s : State} {ident : BitVec 32} (h : ∀ e ∈ s.tracker, e.ident ≠ ident) :
    s.deliver ident = s := by
  have hnone : s.entryForIdent ident = none := by simpa [State.entryForIdent] using h
  simp [State.deliver, hnone]

theorem State.voidCache_keepsCacheBits (s : State) (ident : BitVec 32) : s.KeepsCacheBits (s.voidCache ident) := by
  unfold State.voidCache
  split
  case h_1 => exact State.setCacheSet_keepsCacheBits (by simp)
  case h_2 => exact .of_cache_eq rfl

/-- The Void's other effects do not reach the cache (R47, R48). -/
theorem State.manifestVoided_keepsCacheBits (s : State) (ident : BitVec 32) :
    s.KeepsCacheBits ((((s.voidCache ident).voidEntry ident).voidClaim ident).voidRecords ident) :=
  (s.voidCache_keepsCacheBits ident).trans (.of_cache_eq (by simp))

/-! ## A manifest that is accepted (R33, R35, R44) -/

theorem storedForm_eq (m : Manifest) : storedForm m = { m with unitMass := if m.unitMass = 0 then 1 else m.unitMass } := by
  by_cases h : m.unitMass = 0#16 <;> simp [storedForm, h]

@[simp] theorem storedForm_ident (m : Manifest) : (storedForm m).ident = m.ident := by simp [storedForm_eq]

/-- The set of the manifest's ident after the write. -/
@[simp] theorem State.storeManifest_cacheSet_self (s : State) (m : Manifest) :
    (s.storeManifest m).cacheSet (setOf m.ident) = (s.cacheSet (setOf m.ident)).store m := by
  simp [State.storeManifest]

/-- Acceptance after the write leaves the bits: the delivery consumes (R36, R39). -/
theorem State.storeManifest_keepsCacheBits_acceptManifest (s : State) (m : Manifest) :
    (s.storeManifest m).KeepsCacheBits (s.acceptManifest m) :=
  (State.KeepsCacheBits.of_cache_eq (by simp)).trans (State.deliver_keepsCacheBits _ m.ident)

/-- With no entry that waits for it, the write is all that acceptance does to the cache. -/
theorem State.acceptManifest_cache_of_not_awaited {s : State} {m : Manifest} (h : ∀ e ∈ s.tracker, e.ident ≠ m.ident) :
    (s.acceptManifest m).cache = (s.storeManifest m).cache := by
  have hdeliver := State.deliver_of_not_awaited
    (s := ((s.storeManifest m).applyManifest m).judgeRise (s.storeManifest m) m.load none) (by simpa using h)
  simp [State.acceptManifest, hdeliver]

/-! ## The end of an event leaves the cache -/

theorem State.when_cache {s : State} {f : State → State} (c : Bool) (h : (f s).cache = s.cache) :
    (s.when c f).cache = s.cache := by
  obtain ⟨-, e⟩ | ⟨-, e⟩ := s.when_cases c f
  · rw [e, h]
  · rw [e]

@[simp] theorem State.tryReject_cache (s : State) : s.tryReject.cache = s.cache := State.when_cache _ (by simp)

@[simp] theorem State.tryClaim_cache (s : State) : s.tryClaim.cache = s.cache := State.when_cache _ (by simp)

@[simp] theorem State.tryJoins_cache (s : State) : s.tryJoins.cache = s.cache := by
  simp only [State.tryJoins]
  (repeat' split) <;> simp

@[simp] theorem State.tryTransfers_cache (s : State) : s.tryTransfers.cache = s.cache :=
  foldl_keeps State.tryTransfer State.cache (fun _ _ => State.when_cache _ (by simp)) _ s

@[simp] theorem State.settleZones_cache (s : State) : s.settleZones.cache = s.cache := by
  unfold State.settleZones
  iterate 9 refine (State.when_cache _ (by simp)).trans ?_
  rfl

@[simp] theorem State.joinRequests_cache (s : State) : s.joinRequests.cache = s.cache :=
  foldl_keeps State.joinRequest State.cache (fun s e => by simp) s.tracker s

@[simp] theorem State.settle_cache (s : State) : s.settle.cache = s.cache := by
  simp [State.settle, State.when_cache]

@[simp] theorem State.refresh_cache (s : State) : s.refresh.cache = s.cache := rfl

@[simp] theorem State.endStopping_cache (s : State) : s.endStopping.cache = s.cache := by
  unfold State.endStopping
  split <;> simp

/-- No start writes the cache. -/
@[simp] theorem State.finish_cache (s : State) : s.finish.cache = s.cache := by simp [State.finish]

@[simp] theorem State.joinFreed_cache (before s : State) : (before.joinFreed s).cache = s.cache := by
  obtain e | ⟨-, -, -, e | e | e | e | e⟩ := before.joinFreed_cases s <;> simp [e]

/-- In a working lane the cache after an event is what the event's own effect made of it. -/
theorem State.event_cache {s : State} {f : State → State} (h : s.working = true) : (s.event f).cache = (f s).cache := by
  simp [State.event_working s f h]

theorem State.event_keepsCacheBits {s : State} {f : State → State} (hf : s.KeepsCacheBits (f s)) :
    s.KeepsCacheBits (s.event f) := by
  cases h : s.working
  case false => exact .of_cache_eq (by rw [State.event_idle s f h])
  case true => exact hf.trans (.of_cache_eq (State.event_cache h))

/-- A reception leaves the bits when the act of the block it reaches does (R129, R130). -/
theorem State.takeNotice_keepsCacheBits {f : State → State} (hf : ∀ s : State, s.KeepsCacheBits (f s)) (s : State)
    (src : Station) (allowed : Bool) : s.KeepsCacheBits (s.takeNotice src allowed f) := by
  have hheard : s.KeepsCacheBits (s.heard src) := .of_cache_eq (by simp)
  obtain ⟨-, -, e⟩ | ⟨-, -, e⟩ | ⟨-, -, e⟩ | ⟨-, -, e⟩ := s.takeNotice_cases src allowed f
  · exact .of_cache_eq (by rw [e])
  · exact .of_cache_eq (by simp [e])
  · exact e ▸ hheard.trans (hf _)
  · exact e ▸ hheard

/-! ## The commands -/

theorem State.addressed_of_offered {s : State} {src : Station} {dst : BitVec 4} (h : Safety.offered s src dst) :
    s.addressed dst = true := by
  obtain ⟨-, hdst⟩ := h
  simpa [State.addressed] using hdst

/-- The cache after a MANIFEST that passes the check is the one its acceptance leaves (R33). -/
theorem exec_manifest_cache {s : State} {src : Station} {dst : BitVec 4} {m : Manifest} (hw : s.working = true)
    (ho : Safety.offered s src dst) (hm : manifestOk m = true) :
    ∃ t, exec (.manifest src dst m) s = .next t ∧ t.cache = ((s.heard src).acceptManifest (storedForm m)).cache := by
  have ⟨hsrc, _⟩ := ho
  refine ⟨_, rfl, ?_⟩
  rw [State.event_cache hw, State.addressed_of_offered ho, State.takeNotice_offered s src _ hsrc]
  simp [State.checked, hm]

theorem State.tagReply_keepsCacheBits {s t : State} {r : TagReply} (h : exec (.tagReply r) s = .next t) :
    s.KeepsCacheBits t := by
  cases h
  apply State.event_keepsCacheBits
  cases r with
  | read ident => exact s.resolveRead_keepsCacheBits ident
  | noRead => exact s.resolveRead_keepsCacheBits 0
  | undecodable => exact .of_cache_eq rfl

theorem State.manifestVoid_keepsCacheBits {s t : State} {src : Station} {dst : BitVec 4} {ident : BitVec 32}
    (h : exec (.manifestVoid src dst ident) s = .next t) : s.KeepsCacheBits t := by
  cases h
  exact State.event_keepsCacheBits
    (State.takeNotice_keepsCacheBits (fun s => s.manifestVoided_keepsCacheBits ident) s src _)

theorem State.joinReply_cache (s : State) (dst : Station) (parts : List (List Byte)) :
    (s.joinReply dst parts).cache = s.cache := by
  unfold State.joinReply
  split <;> rfl

theorem State.statusProbe_keepsCacheBits {s t : State} {src : Station} {dst : BitVec 4} {index : Byte}
    (h : exec (.statusProbe src dst index) s = .next t) : s.KeepsCacheBits t := by
  cases h
  exact State.event_keepsCacheBits
    (State.takeNotice_keepsCacheBits (fun s => .of_cache_eq (s.joinReply_cache src (probeReply index s))) s src _)

/-! ## The statement, clause by clause -/

/-- R36's table, and the way written. -/
theorem CacheSet.store_spec (c : CacheSet) (m : Manifest) :
    (c.target m.ident = 0 → (c.store m).b0 = true ∧ (c.store m).b1 = true ∧ (c.store m).b2 = c.b2)
      ∧ (c.target m.ident = 1 → (c.store m).b0 = true ∧ (c.store m).b1 = false ∧ (c.store m).b2 = c.b2)
      ∧ (c.target m.ident = 2 → (c.store m).b0 = false ∧ (c.store m).b1 = c.b1 ∧ (c.store m).b2 = true)
      ∧ (c.target m.ident = 3 → (c.store m).b0 = false ∧ (c.store m).b1 = c.b1 ∧ (c.store m).b2 = false)
      ∧ ((c.store m).ways[(c.target m.ident).val] = ⟨true, m.ident, m⟩)
      ∧ ∀ w : Fin 4, w ≠ c.target m.ident → (c.store m).ways[w.val] = c.ways[w.val] := by
  refine ⟨?_, ?_, ?_, ?_, by simp, fun w => CacheSet.store_way_other⟩
  all_goals
    intro h
    rw [CacheSet.store_of_target h]
    exact ⟨rfl, rfl, rfl⟩

/-- MANIFEST writes the manifest, in the form it is stored in, to the set of its ident; a delivery in the same event
leaves the bits as the write has set them. -/
theorem exec_manifest_stores {s : State} {src : Station} {dst : BitVec 4} {m : Manifest} (hw : s.working = true)
    (ho : Safety.offered s src dst) (hm : manifestOk m = true) :
    ∃ t c, exec (.manifest src dst m) s = .next t
      ∧ c = (s.cacheSet (setOf m.ident)).store { m with unitMass := if m.unitMass = 0 then 1 else m.unitMass }
      ∧ (t.cacheSet (setOf m.ident)).b0 = c.b0 ∧ (t.cacheSet (setOf m.ident)).b1 = c.b1
      ∧ (t.cacheSet (setOf m.ident)).b2 = c.b2
      ∧ ((∀ e ∈ s.tracker, e.ident ≠ m.ident) → t.cacheSet (setOf m.ident) = c) := by
  obtain ⟨t, hexec, hcache⟩ := exec_manifest_cache hw ho hm
  have hstored : ((s.heard src).storeManifest (storedForm m)).cacheSet (setOf m.ident)
      = (s.cacheSet (setOf m.ident)).store (storedForm m) := by
    have hwritten := (s.heard src).storeManifest_cacheSet_self (storedForm m)
    have hheard : (s.heard src).cacheSet (setOf m.ident) = s.cacheSet (setOf m.ident) := State.cacheSet_congr (by simp) _
    rwa [storedForm_ident, hheard] at hwritten
  have hbits : (t.cacheSet (setOf m.ident)).bits = ((s.cacheSet (setOf m.ident)).store (storedForm m)).bits := by
    rw [State.cacheSet_congr hcache, State.storeManifest_keepsCacheBits_acceptManifest, hstored]
  obtain ⟨h0, h1, h2⟩ := CacheSet.bits_eq_iff.mp hbits
  refine ⟨t, _, hexec, by rw [← storedForm_eq], h0, h1, h2, fun hnone => ?_⟩
  rw [State.cacheSet_congr hcache, ← hstored]
  exact State.cacheSet_congr (State.acceptManifest_cache_of_not_awaited (by simpa using hnone)) _

/-- Settles O32: the write by the branches of `target`, and the rest as frames of the bits. -/
theorem replacementBits : Obligations.ReplacementBits := by
  unfold Obligations.ReplacementBits
  refine ⟨CacheSet.store_spec, ?free, ?held, ?full, fun _ _ => ⟨rfl, rfl, rfl⟩, ?manifest, ?kept⟩
  case free =>
    intro c ident w hmiss hinvalid hlt
    exact CacheSet.target_of_free hmiss (CacheSet.freeWay_eq_some hinvalid hlt)
  case held =>
    intro c ident w hvalid hident huniq
    exact CacheSet.target_of_held
      (CacheSet.findWay_eq_some hvalid hident (fun v hlt hvv hvi => Fin.ne_of_lt hlt (huniq v hvv hvi)))
  case full =>
    intro c ident h
    rw [← CacheSet.victim_eq]
    exact CacheSet.target_of_full (CacheSet.findWay_eq_none (fun v => (h v).2))
      (CacheSet.freeWay_eq_none (fun v => (h v).1))
  case manifest =>
    intro s src dst m hw ho hm
    exact exec_manifest_stores hw ho hm
  case kept =>
    intro c s t i hexec hc
    have hkeeps : s.KeepsCacheBits t := by
      obtain ⟨r, rfl⟩ | ⟨src, dst, x, rfl⟩ | ⟨src, dst, x, rfl⟩ := hc
      · exact State.tagReply_keepsCacheBits hexec
      · exact State.manifestVoid_keepsCacheBits hexec
      · exact State.statusProbe_keepsCacheBits hexec
    exact CacheSet.bits_eq_iff.mp (hkeeps i)

end Sys2Proof.Machine
end

section
/-! SUPPORT. The bed link's part of the state: which commands leave it as it was, and what the judgement of a slot does to
the consecutive-miss counts (R50 to R57). -/

namespace Sys2Proof.Machine

/-! ## The end of an event leaves the bed link -/

@[simp] theorem State.when_bed {s : State} {f : State → State} (c : Bool) (h : (f s).bed = s.bed) :
    (s.when c f).bed = s.bed := by
  obtain ⟨-, e⟩ | ⟨-, e⟩ := s.when_cases c f
  · rw [e, h]
  · rw [e]

@[simp] theorem State.tryReject_bed (s : State) : s.tryReject.bed = s.bed := State.when_bed _ (by simp)

@[simp] theorem State.tryClaim_bed (s : State) : s.tryClaim.bed = s.bed := State.when_bed _ (by simp)

@[simp] theorem State.tryTransfer_bed (s : State) (z : Fin 8) : (s.tryTransfer z).bed = s.bed := State.when_bed _ (by simp)

@[simp] theorem State.tryJoins_bed (s : State) : s.tryJoins.bed = s.bed := by
  simp only [State.tryJoins]
  (repeat' split) <;> simp

@[simp] theorem State.tryTransfers_bed (s : State) : s.tryTransfers.bed = s.bed :=
  foldl_keeps State.tryTransfer State.bed State.tryTransfer_bed _ s

@[simp] theorem State.settleZones_bed (s : State) : s.settleZones.bed = s.bed := by simp [State.settleZones]

@[simp] theorem State.joinRequests_bed (s : State) : s.joinRequests.bed = s.bed :=
  foldl_keeps State.joinRequest State.bed (fun s e => by simp) s.tracker s

@[simp] theorem State.settle_bed (s : State) : s.settle.bed = s.bed := by simp [State.settle]

@[simp] theorem State.endStopping_bed (s : State) : s.endStopping.bed = s.bed := by
  unfold State.endStopping
  split <;> simp

/-- No start writes the bed link. -/
@[simp] theorem State.finish_bed (s : State) : s.finish.bed = s.bed := by simp [State.finish, State.refresh]

@[simp] theorem State.joinFreed_bed (before s : State) : (before.joinFreed s).bed = s.bed := by
  obtain e | ⟨-, -, -, e | e | e | e | e⟩ := before.joinFreed_cases s <;> simp [e]

/-- In a working lane the bed link after an event is what the event's own effect made of it. -/
theorem State.event_bed_of_working {s : State} {f : State → State} (h : s.working = true) :
    (s.event f).bed = (f s).bed := by
  simp [State.event_working s f h]

/-- In every lane state an event keeps what its own effect keeps of the bed link. -/
theorem State.event_keeps_bed {α : Type} (g : BedLink → α) {s : State} {f : State → State}
    (h : g (f s).bed = g s.bed) : g (s.event f).bed = g s.bed := by
  cases hw : s.working
  case false => rw [State.event_idle s f hw]
  case true => rw [State.event_bed_of_working hw, h]

@[simp] theorem State.event_bed {s : State} {f : State → State} (h : (f s).bed = s.bed) : (s.event f).bed = s.bed :=
  State.event_keeps_bed id h

/-! ## Receptions, expiries and raises -/

@[simp] theorem State.takeNotice_bed {f : State → State} (h : ∀ s : State, (f s).bed = s.bed) (s : State) (src : Station)
    (allowed : Bool) : (s.takeNotice src allowed f).bed = s.bed := by
  obtain ⟨-, -, e⟩ | ⟨-, -, e⟩ | ⟨-, -, e⟩ | ⟨-, -, e⟩ := s.takeNotice_cases src allowed f <;> simp [e, h]

@[simp] theorem State.checked_bed {f : State → State} (h : ∀ s : State, (f s).bed = s.bed) (s : State) (ok : Bool) :
    (s.checked ok f).bed = s.bed := by
  cases ok <;> simp [State.checked, h]

@[simp] theorem State.lineCommand_bed {f : Option Station → State → State} (h : ∀ o s, (f o s).bed = s.bed) (s : State)
    (src : Station) (dst : BitVec 4) : (s.lineCommand src dst f).bed = s.bed := by
  simp [State.lineCommand, h]

@[simp] theorem State.onExpiry_bed {f : State → State} (h : ∀ s : State, (f s).bed = s.bed) (s : State)
    (timer : Option Ms) (period : Nat) : (s.onExpiry timer period f).bed = s.bed := by
  cases timer <;> simp [h]

@[simp] theorem State.onMotionExpiry_bed {f : State → State} (h : ∀ s : State, (f s).bed = s.bed) (s : State) (m : Motion)
    (period : Nat) : (s.onMotionExpiry m period f).bed = s.bed := by
  unfold State.onMotionExpiry
  (repeat' split) <;> simp [h]

@[simp] theorem State.raiseAll_bed (s : State) (l : List Raise) : (s.raiseAll l).bed = s.bed :=
  foldl_keeps (fun (s : State) (f : Raise) => s.raise f.1 f.2) State.bed (fun s f => by simp) _ _

/-! ## Chapter 1: motions -/

@[simp] theorem State.setEye_bed (s : State) (e : Eye) (blocked : Bool) : (s.setEye e blocked).bed = s.bed := by
  cases e <;> rfl

@[simp] theorem State.arriveAtIn_bed (s : State) : s.arriveAtIn.bed = s.bed := by
  simp only [State.arriveAtIn, State.requestRead]
  split <;> simp

@[simp] theorem State.arrive_bed (s : State) (z : Fin 9) : (s.arrive z).1.bed = s.bed := by
  unfold State.arrive
  (repeat' split) <;> simp

@[simp] theorem State.completeTransfer_bed (s : State) (z : Fin 8) : (s.completeTransfer z).1.bed = s.bed := by
  simp [State.completeTransfer]

@[simp] theorem State.completeReject_bed (s : State) : s.completeReject.1.bed = s.bed := by
  simp only [State.completeReject]
  (repeat' split) <;> simp

@[simp] theorem State.zoneEyeBlocked_bed (z : Fin 9) (s : State) : (s.zoneEyeBlocked z).bed = s.bed := by
  simp only [State.zoneEyeBlocked, State.withRaises]
  (repeat' split) <;> simp

@[simp] theorem State.rejectEyeBlocked_bed (s : State) : s.rejectEyeBlocked.bed = s.bed := by
  simp only [State.rejectEyeBlocked, State.withRaises]
  split <;> simp

@[simp] theorem State.exitEyeCleared_bed (s : State) : s.exitEyeCleared.bed = s.bed := by
  unfold State.exitEyeCleared
  split <;> simp

@[simp] theorem edgeEffect_bed (e : Eye) (blocked : Bool) (s : State) : (edgeEffect e blocked s).bed = s.bed := by
  cases e <;> cases blocked <;> simp [edgeEffect]

@[simp] theorem State.eyeEdge_bed (s : State) (e : Eye) (blocked : Bool) : (s.eyeEdge e blocked).bed = s.bed := by
  unfold State.eyeEdge
  split <;> simp

@[simp] theorem State.transferExpired_bed (z : Fin 8) (s : State) : (s.transferExpired z).bed = s.bed := by
  simp [State.transferExpired]

@[simp] theorem State.rejectExpired_bed (s : State) : s.rejectExpired.bed = s.bed := by simp [State.rejectExpired]

@[simp] theorem State.exitExpired_bed (s : State) : s.exitExpired.bed = s.bed := by simp [State.exitExpired]

/-! ## Chapters 2 and 3: identification, the frame and the weighing -/

@[simp] theorem State.resolveRead_bed (s : State) (ident : BitVec 32) : (s.resolveRead ident).bed = s.bed := by
  unfold State.resolveRead
  (repeat' split) <;> simp

@[simp] theorem State.settleExpired_bed (s : State) : s.settleExpired.bed = s.bed := by
  simp only [State.settleExpired]
  split <;> simp

@[simp] theorem State.acceptSet_bed (s : State) : s.acceptSet.bed = s.bed := rfl

@[simp] theorem State.useStable_bed (s : State) : s.useStable.1.bed = s.bed := by
  simp only [State.useStable, State.autoZero, State.settleWeighing]
  (repeat' split) <;> simp

@[simp] theorem State.takeSet_bed (s : State) : s.takeSet.1.bed = s.bed := by
  simp only [State.takeSet]
  (repeat' split) <;> simp

@[simp] theorem State.takeForce_bed (s : State) : s.takeForce.1.bed = s.bed := by
  simp only [State.takeForce, State.countForce]
  (repeat' split) <;> rfl

/-- The frame's completion begins the next frame, and leaves the samples and the counts (R50, R55). -/
theorem State.endFrame_bed (s : State) : s.endFrame.bed = s.bed.nextFrame := by simp [State.endFrame]

theorem State.frameComplete_miss (s : State) : s.frameComplete.bed.miss = s.bed.miss := by
  obtain ⟨-, e⟩ | ⟨-, e⟩ := s.frameComplete_cases <;> simp [e, State.endFrame_bed]

/-! ## Chapter 5: the wrap -/

@[simp] theorem State.actOnIndex_bed (s : State) : s.actOnIndex.bed = s.bed := by
  simp only [State.actOnIndex, State.parkIndex]
  (repeat' split) <;> simp

@[simp] theorem State.tableIndex_bed (s : State) : s.tableIndex.bed = s.bed := by
  simp only [State.tableIndex]
  split <;> simp

@[simp] theorem State.stallTimeout_bed (s : State) : s.stallTimeout.bed = s.bed := by
  have hstalls (s : State) : s.tableStalls.bed = s.bed := by simp [State.tableStalls]
  unfold State.stallTimeout
  split <;> simp [hstalls]

@[simp] theorem State.topEyeMoves_bed (s : State) (blocked : Bool) : (s.topEyeMoves blocked).bed = s.bed := by
  unfold State.topEyeMoves
  (repeat' split) <;> simp

@[simp] theorem State.mastHomeRises_bed (s : State) : s.mastHomeRises.bed = s.bed := by
  unfold State.mastHomeRises
  split <;> simp

@[simp] theorem State.cutDone_bed (s : State) : s.cutDone.bed = s.bed := by
  unfold State.cutDone
  split <;> simp

/-! ## Chapter 6: the labels -/

@[simp] theorem State.takeAnswer_bed (s : State) (d : Side) (a : UnitAnswer) : (s.takeAnswer d a).bed = s.bed := by
  unfold State.takeAnswer
  (repeat' split) <;> simp

@[simp] theorem State.printExpired_bed (s : State) : s.printExpired.bed = s.bed := by
  unfold State.printExpired
  (repeat' split) <;> simp

@[simp] theorem State.markBlocked_bed (s : State) : s.markBlocked.bed = s.bed := by
  unfold State.markBlocked
  (repeat' split) <;> simp

@[simp] theorem State.onFired_bed (s : State) (f : Job → Job) : (s.onFired f).bed = s.bed := by
  simp only [State.onFired, State.judgeFired]
  (repeat' split) <;> simp

@[simp] theorem State.setApplied_bed (s : State) (d : Side) (v : Bool) : (s.setApplied d v).bed = s.bed := by
  cases d <;> rfl

@[simp] theorem State.setLabelLow_bed (s : State) (d : Side) (v : Bool) : (s.setLabelLow d v).bed = s.bed := by
  cases d <;> rfl

/-! ## Chapters 7 and 8: the line and the release -/

@[simp] theorem State.removeHead_bed (s : State) (src : Source) : (s.removeHead src).bed = s.bed := by cases src <;> rfl

@[simp] theorem State.ownerDone_bed (s : State) (marked : Bool) (n : Notice) : (s.ownerDone marked n).bed = s.bed := by
  cases n <;> simp [State.ownerDone]

@[simp] theorem State.ownComplete_bed (s : State) : s.ownComplete.bed = s.bed := by
  simp only [State.ownComplete, State.serve]
  (repeat' split) <;> simp

@[simp] theorem State.dropMarked_bed (s : State) (src : Source) : (s.dropMarked src).bed = s.bed := by
  unfold State.dropMarked
  (repeat' split) <;> simp

@[simp] theorem State.collide_bed (s : State) : s.collide.bed = s.bed := by
  unfold State.collide
  (repeat' split) <;> simp

@[simp] theorem State.stallTimesOut_bed (s : State) : s.stallTimesOut.bed = s.bed := by
  unfold State.stallTimesOut
  split <;> simp

/-! ## Chapters 9 to 11: the lane commands, the status replies, the configuration -/

@[simp] theorem State.examineTransfer_bed (s : State) (z : Fin 8) : (s.examineTransfer z).1.bed = s.bed := by
  unfold State.examineTransfer
  (repeat' split) <;> simp

@[simp] theorem State.examineReject_bed (s : State) : s.examineReject.1.bed = s.bed := by
  unfold State.examineReject
  (repeat' split) <;> simp

@[simp] theorem State.examineAll_bed (s : State) : s.examineAll.1.bed = s.bed := by
  simp [State.examineAll]

@[simp] theorem State.doStart_bed (origin : Option Station) (s : State) : (s.doStart origin).bed = s.bed := by
  simp only [State.doStart, State.enterRunning]
  split <;> simp

@[simp] theorem State.doStop_bed (origin : Option Station) (s : State) : (s.doStop origin).bed = s.bed := by
  unfold State.doStop
  split <;> simp

@[simp] theorem State.doAck_bed (origin : Option Station) (s : State) : (s.doAck origin).bed = s.bed := by
  simp only [State.doAck]
  split <;> simp

@[simp] theorem State.doForce_bed (origin : Option Station) (s : State) : (s.doForce origin).bed = s.bed := by
  simp only [State.doForce]
  split <;> simp

@[simp] theorem State.doPurge_bed (zone : Byte) (origin : Option Station) (s : State) :
    (s.doPurge zone origin).bed = s.bed := by
  unfold State.doPurge
  (repeat' split) <;> simp

@[simp] theorem State.clearTrack_bed (s : State) : s.clearTrack.bed = s.bed := by
  have hzones := foldl_keeps State.clearZone State.bed (fun s z => by simp) allZones s.stopMotions
  simp [State.clearTrack, hzones]

@[simp] theorem State.clearLineWork_bed (s : State) (noted : Option Notice) : (s.clearLineWork noted).bed = s.bed := by
  have hentries := foldl_keeps (fun (s : State) (e : TrackEntry) => s.freeEntry e.tag) State.bed (fun s e => by simp) s.tracker s
  simp [State.clearLineWork, hentries]

/-- A lane restart does not reach the bed link (R25 to R28, R55). -/
@[simp] theorem State.laneRestart_bed (s : State) : s.laneRestart.bed = s.bed := by
  have horphans := foldl_keeps State.addOrphan State.bed (fun s z => by simp) allZones s.clearTrack
  simp [State.laneRestart, horphans]

@[simp] theorem State.doRestart_bed (origin : Option Station) (s : State) : (s.doRestart origin).bed = s.bed := by
  unfold State.doRestart
  split <;> simp

@[simp] theorem State.joinReply_bed (s : State) (dst : Station) (parts : List (List Byte)) :
    (s.joinReply dst parts).bed = s.bed := by
  unfold State.joinReply
  split <;> rfl

@[simp] theorem State.statusRequest_bed (s : State) (src : Station) (dst : BitVec 4) (compose : State → List (List Byte)) :
    (s.statusRequest src dst compose).bed = s.bed := by
  simp [State.statusRequest]

@[simp] theorem State.lampMoves_bed (s : State) : s.lampMoves.bed = s.bed := by
  unfold State.lampMoves
  split <;> simp

/-- The judged block begins the first frame, and leaves the samples and the counts (R50, R188). -/
theorem State.configRead_miss (s : State) (bytes : List Byte) : (s.configRead bytes).bed.miss = s.bed.miss := by
  simp only [State.configRead, State.acceptConfig]
  (repeat' split) <;> simp

/-! ## The commands that leave the bed link -/

/-- An input takes a level: with the level it has, nothing but the end of the event; else the event of its edge (log 6). -/
theorem State.edge_bed {s t : State} {f : State → State} (p : Prop) [Decidable p] (ht : t.bed = s.bed)
    (hf : (f t).bed = t.bed) : (if p then s.event id else t.event f).bed = s.bed := by
  split
  · exact State.event_bed rfl
  · exact (State.event_bed hf).trans ht

/-- The commands that write the bed link: a slot's judgement, the frame's completion, the judged configuration block, and
the start-ups (R50, R51, R193). -/
inductive WritesBed : Instr → Prop
  | slotJudged (i : Fin 5) (bits : BitVec 26) : WritesBed (.bedSlotJudged i bits)
  | frameComplete : WritesBed .bedFrameComplete
  | configRead (bytes : List Byte) : WritesBed (.configBlockRead bytes)
  | powerOn : WritesBed .powerOnReset
  | reset : WritesBed .resetAsserted

/-- Every other command leaves the bed link as it was. -/
theorem exec_bed {c : Instr} {s t : State} (hc : ¬ WritesBed c) (h : exec c s = .next t) : t.bed = s.bed := by
  cases c with
  | bedSlotJudged _ _ | bedFrameComplete | configBlockRead _ | powerOnReset | resetAsserted => exact absurd (by constructor) hc
  | inArrival | eyeEdgeNoEffect _ _ | transferComplete _ | rejectTransferComplete | exitComplete =>
    cases h
    exact s.eyeEdge_bed _ _
  | topEyeEdge _ | filmLowInput _ | estopInput _ =>
    cases h
    exact State.edge_bed _ rfl (by simp)
  | mastHomeAsserted _ | labelMarkEdge _ =>
    cases h
    exact State.edge_bed _ rfl (by split <;> simp)
  | appliedConfirmation side asserted =>
    cases h
    exact State.edge_bed _ (s.setApplied_bed side asserted) (by split <;> simp)
  | labelLowInput side asserted =>
    cases h
    exact State.edge_bed _ (s.setLabelLow_bed side asserted) (by simp)
  | ack origin | restart origin =>
    cases h
    cases origin with
    | line src dst => exact State.lineCommand_bed (by simp) s src dst
    | push _ => exact State.edge_bed _ rfl (by split <;> simp)
  | start src dst | stop src dst | forceRelease src dst | purge src dst _ =>
    cases h
    exact State.lineCommand_bed (by simp) s src dst
  | claim _ _ _ _ _ _ | released _ _ _ _ | abandon _ _ _ _ =>
    cases h
    exact State.event_bed (by split <;> simp)
  | manifest _ _ _ | manifestVoid _ _ _ | skip _ _ _ _ | loadClose _ _ _ | laneCommandUnassigned _ _ _
  | peerNoticeIgnored _ _ _ | addressClash _ _ =>
    cases h
    exact State.event_bed (State.takeNotice_bed (by simp) _ _ _)
  | statusLane src dst _ | statusCounters src dst _ | statusFaults src dst _ | statusView src dst _
  | statusProbe src dst _ | statusZone src dst _ | statusRequestInvalid src dst _ _ =>
    cases h
    exact s.statusRequest_bed src dst _
  | transferTimeout _ | rejectTransferTimeout | exitTimeout =>
    cases h
    exact State.event_bed (State.onMotionExpiry_bed (by simp) _ _ _)
  | tagReadTimeout | settleTimeout | cutTimeEnd | printTimeout | applyPulseEnd | applyTimeout | claimTimeout _ =>
    cases h
    exact State.event_bed (State.onExpiry_bed (by simp) _ _ _)
  | manifestTimeout _ | lineActivityDefer _ | noticeDiscarded _ | tagReply _ =>
    cases h
    exact State.event_bed (by split <;> simp)
  | laneLampPhase =>
    cases h
    exact (State.event_bed rfl).trans s.lampMoves_bed
  | exitStart _ | weighingStart | wrapStart | labelCompose =>
    cases h
    exact State.event_bed (State.when_bed _ (by simp))
  | runOnInput _ | rejectTransferStart _ | claimQueue _ | transferStart _ | manifestRequestJoin | turntablePulse
  | turntableIndex | turntableStallTimeout | mastStep _ | labelAnswer _ _ | conveyorPulse | stallTimeout | accessWaitEnd
  | collision | backoffWaitEnd | gapEnd | ownNoticeComplete | noticeTruncated =>
    cases h
    exact State.event_bed (by simp)

/-! ## The consecutive-miss counts (R55) -/

theorem State.missCount_congr {s t : State} (h : t.bed.miss = s.bed.miss) (i : Fin 5) : t.missCount i = s.missCount i := by
  simp [State.missCount, h]

@[simp] theorem BedLink.miss1_fields (b : BedLink) (i : Fin 5) :
    (b.miss1 i).held = b.held ∧ (b.miss1 i).miss = b.miss.set i.val (satSucc 255 b.miss[i.val]) i.isLt := ⟨rfl, rfl⟩

@[simp] theorem BedLink.receive_fields (b : BedLink) (i : Fin 5) (sample : BitVec 24) (j : Judgement) :
    (b.receive i sample j).held = b.held.set i.val sample i.isLt ∧ (b.receive i sample j).miss = b.miss.set i.val 0 i.isLt :=
  ⟨rfl, rfl⟩

/-- A count that saturates (R55). -/
theorem satSucc_eq_min (m n : Nat) : satSucc m n = min m (n + 1) := by
  unfold satSucc
  split <;> omega

theorem State.judgeLostCause_bed (s : State) (i : Fin 5) : (s.judgeLostCause i).bed = s.bed := by
  unfold State.judgeLostCause
  (repeat' split) <;> simp

/-- The judgement of a missed slot in turn (R52, R55). -/
theorem State.slotJudged_bed_of_missed {s : State} {i : Fin 5} {bits : BitVec 26} (hdue : s.slotDue i = true)
    (h : judgeSlot bits = .missed) : (s.slotJudged i bits).bed = (s.bed.miss1 i).pass i := by
  rw [State.slotJudged, if_pos hdue, h]
  dsimp only
  split <;> simp

/-- The judgement of a valid slot in turn, saturated or not (R52, R55). -/
theorem State.slotJudged_bed_of_valid {s : State} {i : Fin 5} {bits : BitVec 26} (hdue : s.slotDue i = true)
    (h : judgeSlot bits ≠ .missed) :
    (s.slotJudged i bits).bed = (s.bed.receive i (slotSample bits) (judgeSlot bits)).pass i := by
  rw [State.slotJudged, if_pos hdue]
  split
  case h_1 hm => exact absurd hm h
  case h_2 => exact State.judgeLostCause_bed _ i

/-- When a slot counts as missed (R51). -/
theorem judgeSlot_eq_missed_iff (bits : BitVec 26) :
    judgeSlot bits = .missed ↔ bits = BitVec.allOnes 26 ∨ bits.getLsbD 1 = false := by
  unfold judgeSlot
  split
  case isTrue h => exact iff_of_true rfl h
  case isFalse h => exact iff_of_false (by split <;> decide) h

/-- The judgement of one slot leaves the counts of the others. -/
theorem State.slotJudged_missCount_other {s : State} {i j : Fin 5} {bits : BitVec 26} (h : j ≠ i) :
    (s.slotJudged i bits).missCount j = s.missCount j := by
  have hval : i.val ≠ j.val := fun e => h (Fin.ext e.symm)
  cases hdue : s.slotDue i
  case false => rw [s.slotJudged_outOfTurn i bits hdue]
  case true =>
    by_cases hm : judgeSlot bits = .missed
    · simp [State.missCount, State.slotJudged_bed_of_missed hdue hm, hval]
    · simp [State.missCount, State.slotJudged_bed_of_valid hdue hm, hval]

/-- A missed judgement increments the slot's count up to 255 and keeps the held values (R52, R55). -/
theorem exec_bedSlotJudged_missed {s : State} {i : Fin 5} {bits : BitVec 26} (hw : s.working = true)
    (hdue : s.slotDue i = true) (hm : judgeSlot bits = .missed) :
    ∃ t, exec (.bedSlotJudged i bits) s = .next t ∧ t.missCount i = min 255 (s.missCount i + 1)
      ∧ (∀ j, j ≠ i → t.missCount j = s.missCount j) ∧ t.bed.held = s.bed.held := by
  have hbed : (s.event (·.slotJudged i bits)).bed = (s.slotJudged i bits).bed := State.event_bed_of_working hw
  refine ⟨_, rfl, ?count, fun j hj => ?others, ?held⟩
  case count =>
    rw [State.missCount_congr (congrArg _ hbed)]
    simp [State.missCount, State.slotJudged_bed_of_missed hdue hm, satSucc_eq_min]
  case others => rw [State.missCount_congr (congrArg _ hbed), State.slotJudged_missCount_other hj]
  case held => simp [hbed, State.slotJudged_bed_of_missed hdue hm]

/-- A valid judgement returns the slot's count to 0 and holds its sample (R52, R55). -/
theorem exec_bedSlotJudged_valid {s : State} {i : Fin 5} {bits : BitVec 26} (hw : s.working = true)
    (hdue : s.slotDue i = true) (hm : judgeSlot bits ≠ .missed) :
    ∃ t, exec (.bedSlotJudged i bits) s = .next t ∧ t.missCount i = 0
      ∧ (∀ j, j ≠ i → t.missCount j = s.missCount j)
      ∧ t.bed.held = s.bed.held.set i.val (bits.extractLsb' 2 24) i.isLt := by
  have hbed : (s.event (·.slotJudged i bits)).bed = (s.slotJudged i bits).bed := State.event_bed_of_working hw
  refine ⟨_, rfl, ?count, fun j hj => ?others, ?held⟩
  case count =>
    rw [State.missCount_congr (congrArg _ hbed)]
    simp [State.missCount, State.slotJudged_bed_of_valid hdue hm]
  case others => rw [State.missCount_congr (congrArg _ hbed), State.slotJudged_missCount_other hj]
  case held => simp [hbed, State.slotJudged_bed_of_valid hdue hm, slotSample]

/-- The count of a disabled slot 4 stays at 0: its judgement is never due, no other judgement writes it, and a start-up sets
it to 0 (R53, R55). -/
theorem exec_missCount_of_disabled {c : Instr} {s t : State} (hoff : s.cfg.slot4 = false) (hzero : s.missCount 4 = 0)
    (h : exec c s = .next t) : t.missCount 4 = 0 := by
  by_cases hc : WritesBed c
  case neg => rw [State.missCount_congr (congrArg _ (exec_bed hc h)), hzero]
  case pos =>
    cases hc <;> cases h
    case powerOn => rfl
    case reset => rfl
    case configRead bytes =>
      rw [← hzero]
      exact State.missCount_congr ((congrArg _ (State.event_bed rfl)).trans (s.configRead_miss bytes)) 4
    case frameComplete =>
      rw [← hzero]
      exact State.missCount_congr (State.event_keeps_bed BedLink.miss s.frameComplete_miss) 4
    case slotJudged i bits =>
      have hjudged : (s.slotJudged i bits).missCount 4 = s.missCount 4 := by
        by_cases hi : 4 = i
        · have hdue : s.slotDue i = false := by simp [Bool.eq_false_iff, State.slotDue_iff, ← hi, hoff]
          rw [s.slotJudged_outOfTurn i bits hdue]
        · exact State.slotJudged_missCount_other hi
      rw [← hzero]
      exact State.event_keeps_bed (fun b => b.miss[4]) hjudged

/-- Settles O33: the judgement by its two cases, and the rest by the frame of the bed link. -/
theorem missCounts : Obligations.MissCounts := by
  unfold Obligations.MissCounts
  refine ⟨?missed, ?valid, ?startUp, ?restart, ?disabled⟩
  case missed =>
    intro s i bits hw hslot hon hmiss
    exact exec_bedSlotJudged_missed hw ((s.slotDue_iff i).mpr ⟨hslot, hon⟩) ((judgeSlot_eq_missed_iff bits).mpr hmiss)
  case valid =>
    intro s i bits hw hslot hon hones hvalid
    have hm : judgeSlot bits ≠ .missed := by
      rw [ne_eq, judgeSlot_eq_missed_iff]
      exact not_or.mpr ⟨hones, by simp [hvalid]⟩
    exact exec_bedSlotJudged_valid hw ((s.slotDue_iff i).mpr ⟨hslot, hon⟩) hm
  case startUp => decide
  case restart =>
    intro s t o i h
    have hkept : ¬ WritesBed (.restart o) := nofun
    exact State.missCount_congr (congrArg _ (exec_bed hkept h)) i
  case disabled =>
    intro c s t hoff hzero h _
    exact exec_missCount_of_disabled hoff hzero h

end Sys2Proof.Machine
end
